-- ==== Sys2Proof/Word.lean ====
section
/-! DEFINITION. The byte, and a fixed run of eight like things (the eight lines, the eight bins, the eight materials). -/

namespace Sys2Proof

/-- A byte on any link of the part (00 0.4.1). -/
abbrev Byte := BitVec 8

/-- Eight like things, numbered 0..7: bins (R56), machine lines (Table 2-1), material entries (R113). -/
structure Eight (α : Type) where
  e0 : α
  e1 : α
  e2 : α
  e3 : α
  e4 : α
  e5 : α
  e6 : α
  e7 : α
  deriving DecidableEq, Repr

/-- Entry `i`. -/
def Eight.get {α : Type} (v : Eight α) (i : Fin 8) : α :=
  match i with
  | 0 => v.e0
  | 1 => v.e1
  | 2 => v.e2
  | 3 => v.e3
  | 4 => v.e4
  | 5 => v.e5
  | 6 => v.e6
  | 7 => v.e7

/-- Entry `i` replaced. -/
def Eight.set {α : Type} (v : Eight α) (i : Fin 8) (x : α) : Eight α :=
  match i with
  | 0 => { v with e0 := x }
  | 1 => { v with e1 := x }
  | 2 => { v with e2 := x }
  | 3 => { v with e3 := x }
  | 4 => { v with e4 := x }
  | 5 => { v with e5 := x }
  | 6 => { v with e6 := x }
  | 7 => { v with e7 := x }

/-- The eight things that `f` gives. -/
def Eight.tabulate {α : Type} (f : Fin 8 → α) : Eight α :=
  ⟨f 0, f 1, f 2, f 3, f 4, f 5, f 6, f 7⟩

/-- Eight times the same thing. -/
def Eight.fill {α : Type} (x : α) : Eight α := ⟨x, x, x, x, x, x, x, x⟩

/-- The eight things in order. -/
def Eight.toList {α : Type} (v : Eight α) : List α :=
  [v.e0, v.e1, v.e2, v.e3, v.e4, v.e5, v.e6, v.e7]

/-- The eight numbers 0..7 in order: bins, or lines. -/
def eightIndices : List (Fin 8) := [0, 1, 2, 3, 4, 5, 6, 7]

end Sys2Proof
end

