-- ==== Sys2Proof/Syntax.lean ====
section
/-! DEFINITION. The commands of the part: one constructor for each row of spec/opcode_table.json. An order's parameters are
held as they stand on the wire (Table 11-3, Table 11-4), presence bytes and enumeration bytes included, so that every
refusal of Chapter 11 can be asked for. -/

namespace Sys2Proof

/-- The two link ports, of equal standing (00 0.1). -/
inductive Port where
  | a
  | b
  deriving DecidableEq, Repr

/-- An optional parameter field: its presence byte and its value bytes (R180). -/
structure OptWire (w : Nat) where
  presence : Byte
  value : BitVec w
  deriving DecidableEq, Repr

/-- The nine parameter bytes of SET_TARGET, also the last nine of SET_NEXT (Table 11-3). -/
structure TargetWire where
  truck : OptWire 16
  material : Byte
  target : OptWire 32
  deriving DecidableEq, Repr

/-- A WEIGH record as it stands in the record area (Table 11-4). -/
structure WeighWire where
  nCyl : Byte
  aHead : BitVec 16
  aRod : BitVec 16
  thetaStart : BitVec 16
  thetaEnd : BitVec 16
  filter : Byte
  minS : Byte
  minB : Byte
  kp : Byte
  pitchLimit : BitVec 16
  wtMax : Byte
  deriving DecidableEq, Repr

/-- A CYCLE record as it stands in the record area (Table 11-4). -/
structure CycleWire where
  thetaLow : BitVec 16
  thetaDump : BitVec 16
  phiDump : BitVec 16
  hyst : Byte
  dumpDwell : BitVec 16
  deriving DecidableEq, Repr

/-- A LOAD record as it stands in the record area (Table 11-4). -/
structure LoadWire where
  bucketVol : BitVec 16
  tol : Byte
  ovr : Byte
  autoClose : Byte
  barMode : Byte
  deriving DecidableEq, Repr

/-- A LINES record as it stands in the record area (Table 11-4). -/
structure LinesWire where
  funcs : Eight Byte
  polarities : Eight Byte
  debounce : Eight Byte
  deriving DecidableEq, Repr

/-- A STRIP record as it stands in the record area (Table 11-4). -/
structure StripWire where
  refresh : Byte
  advisoryHold : Byte
  mirror : Byte
  deriving DecidableEq, Repr

/-- The 66 parameter bytes of WRITE_TABLE (Table 11-3, R94). -/
structure TableWire where
  mref : BitVec 16
  tare : Eight (BitVec 32)
  loaded : Eight (BitVec 32)
  deriving DecidableEq, Repr

/-- The twelve parameter bytes of WRITE_MATERIAL (Table 11-3). -/
structure MaterialWire where
  index : Byte
  nameLength : Byte
  name : Eight Byte
  density : BitVec 16
  deriving DecidableEq, Repr

/-- The five parameter bytes of OPEN_WINDOW (R151). -/
structure WindowWire where
  cs : Byte
  ce : Byte
  rs : Byte
  re : Byte
  direction : Byte
  deriving DecidableEq, Repr

/-- The commands, in the order of spec/opcode_table.json. -/
inductive Instr where
  /-- Power-on, or assertion of RESET. -/
  | deviceReset
  /-- The rising edge of SFRM that ends a frame of these bits, first bit first (R3). -/
  | receivedSampleSet (bits : List Bool)
  | pacePulse
  | sampleLoss
  /-- The 10 ms tick; bit `k` of `levels` is what LM samples on line Lk, 1 for high (R18). -/
  | lineSampleTick (levels : BitVec 8)
  | lineUpdate
  | windowTimerExpiry
  | dwellTimerExpiry
  | holdLapse
  | refreshExpiry
  | stripFrameSent
  | blinkToggle
  | advisoryHoldExpiry
  | loadDurationTick
  | shiftDurationTick
  /-- A kind-1 unit that completes where no parameter is due (R170). -/
  | stray (p : Port) (unit : Byte)
  /-- A kind-0 unit whose code is not in the order table (R170). -/
  | badOrder (p : Port) (code : Byte)
  /-- A kind-1 unit that completes in PARAMS (R171). -/
  | parameterUnit (p : Port) (unit : Byte)
  | selRise (p : Port)
  | selFall (p : Port)
  /-- The reply clock at which a released bit reads low (R176). -/
  | contention (p : Port)
  | run (p : Port)
  | stop (p : Port)
  | readLive (p : Port)
  | readOpenLoad (p : Port)
  | setTarget (p : Port) (fields : TargetWire)
  | setNext (p : Port) (noneFlag : Byte) (fields : TargetWire)
  | closeLoad (p : Port)
  | collectLoad (p : Port)
  | releaseLoad (p : Port) (number : BitVec 16)
  | readShift (p : Port)
  | shiftEnd (p : Port)
  | readSettingsSample (p : Port)
  | readSettingsWeigh (p : Port)
  | readSettingsCycle (p : Port)
  | readSettingsLoad (p : Port)
  | readSettingsLines (p : Port)
  | readSettingsStrip (p : Port)
  | writeSettingsSample (p : Port) (paceRate : Byte)
  | writeSettingsWeigh (p : Port) (record : WeighWire)
  | writeSettingsCycle (p : Port) (record : CycleWire)
  | writeSettingsLoad (p : Port) (record : LoadWire)
  | writeSettingsLines (p : Port) (record : LinesWire)
  | writeSettingsStrip (p : Port) (record : StripWire)
  | readMaterial (p : Port) (index : Byte)
  | writeMaterial (p : Port) (fields : MaterialWire)
  | takeHold (p : Port)
  | dropHold (p : Port)
  | calTare (p : Port)
  | calLoaded (p : Port) (mref : BitVec 16)
  | calZero (p : Port)
  | calAbort (p : Port)
  | readTable (p : Port)
  | writeTable (p : Port) (record : TableWire)
  /-- The order unit, the length unit, the SHOW unit and the message bytes of a deposit (R160). -/
  | depositMessage (p : Port) (length : Byte) (showFlag : Byte) (bytes : List Byte)
  | readMessage (p : Port)
  | topNotice (p : Port)
  | readNotices (p : Port)
  | clearNotices (p : Port) (mask : BitVec 16)
  | enableNotices (p : Port) (enables : BitVec 16)
  | lineState (p : Port)
  | setWatch (p : Port) (mask : Byte) (compare : Byte) (mode : Byte)
  | traceArm (p : Port) (mode : Byte)
  | traceRead (p : Port) (n : Byte)
  | openWindow (p : Port) (fields : WindowWire)
  /-- The order unit, the length unit and the characters of a text (R152). -/
  | putText (p : Port) (length : Byte) (chars : List Byte)
  | setStrip (p : Port) (override : Byte)
  | portStatus (p : Port)
  | linkReset (p : Port)
  /-- A kind-0 unit with a known code that carries parameters (R170). -/
  | orderUnit (p : Port) (code : Byte)
  /-- A rising edge of CLK with SEL low; `dat` is false when the master, or another driver, pulls DAT low (R169, R175). -/
  | replyClock (p : Port) (dat : Bool)
  | resetRelease
  deriving DecidableEq, Repr

end Sys2Proof
end

