-- ==== Sys2Proof/Decode.lean ====
section
/-! DEFINITION. The decoder over the rows of spec/opcode_table.json that give bits. No row of this part's table gives any. -/

namespace Sys2Proof

/-- The command that a word spells by the table's bits: none, since no row gives bits. The codes of Table 11-3 are units on a link
port, which `Machine.callsOf` and `Machine.orderOf` read. -/
def decodeTableWord (_nbits _w : Nat) : Option Instr := none

end Sys2Proof
end

