-- ==== Sys2Proof/Machine/Arith.lean ====
section
/-! DEFINITION. The part's arithmetic (00 0.4): rounding, clamping, saturation, the byte order of its links, and decimal text. -/

namespace Sys2Proof.Machine

open Sys2Proof (Byte Eight)

/-- Rounded to nearest, a value exactly halfway going to the integer farther from zero (00 0.4.4); `d` is positive. -/
def roundDiv (n d : Int) : Int :=
  if 0 ≤ n then (2 * n + d) / (2 * d) else -((2 * (-n) + d) / (2 * d))

/-- `roundDiv` on numbers that are not negative. -/
def roundNat (n d : Nat) : Nat := (2 * n + d) / (2 * d)

/-- `x` clamped to `lo..hi` (00 0.4.5). -/
def clampInt (lo hi x : Int) : Int :=
  if x < lo then lo else if hi < x then hi else x

/-- A counter at `n` raised by `k`, saturating at `top` (00 0.4.5). -/
def satAdd (top n k : Nat) : Nat := min top (n + k)

/-! ### Bytes of a link, most significant first (00 0.4.1) -/

/-- One byte. -/
def u8 (n : Nat) : List Byte := [BitVec.ofNat 8 n]

/-- The two bytes of a 16-bit word. -/
def bytes16 (v : BitVec 16) : List Byte := [v.extractLsb' 8 8, v.extractLsb' 0 8]

/-- The four bytes of a 32-bit word. -/
def bytes32 (v : BitVec 32) : List Byte :=
  [v.extractLsb' 24 8, v.extractLsb' 16 8, v.extractLsb' 8 8, v.extractLsb' 0 8]

/-- An unsigned number in two bytes. -/
def u16 (n : Nat) : List Byte := bytes16 (BitVec.ofNat 16 n)

/-- An unsigned number in four bytes. -/
def u32 (n : Nat) : List Byte := bytes32 (BitVec.ofNat 32 n)

/-- A two's complement number in one byte. -/
def i8 (x : Int) : List Byte := [BitVec.ofInt 8 x]

/-- A two's complement number in two bytes. -/
def i16 (x : Int) : List Byte := bytes16 (BitVec.ofInt 16 x)

/-- A two's complement number in four bytes. -/
def i32 (x : Int) : List Byte := bytes32 (BitVec.ofInt 32 x)

/-- A bit as a byte. -/
def bit8 (b : Bool) : Byte := if b then 1 else 0

/-- An optional field of a reply: presence byte 1 and the value, or presence byte 0 and `w` zero bytes (R180). -/
def optField {α : Type} (w : Nat) (enc : α → List Byte) : Option α → List Byte
  | none => 0 :: List.replicate w 0
  | some x => 1 :: enc x

/-- Byte `i` of the parameters of an order. -/
def byteAt (ps : List Byte) (i : Nat) : Byte := ps.getD i 0

/-- The 16-bit word at byte `i` of the parameters. -/
def word16At (ps : List Byte) (i : Nat) : BitVec 16 := byteAt ps i ++ byteAt ps (i + 1)

/-- The 32-bit word at byte `i` of the parameters. -/
def word32At (ps : List Byte) (i : Nat) : BitVec 32 := word16At ps i ++ word16At ps (i + 2)

/-- Eight parameter bytes from byte `i`. -/
def eightAt (ps : List Byte) (i : Nat) : Eight Byte := Eight.tabulate fun k => byteAt ps (i + k.val)

/-- Eight 32-bit words from byte `i` of the parameters. -/
def eight32At (ps : List Byte) (i : Nat) : Eight (BitVec 32) :=
  Eight.tabulate fun k => word32At ps (i + 4 * k.val)

/-- The number that bits spell, first bit most significant. -/
def bitsToNat (bs : List Bool) : Nat := bs.foldl (fun n b => 2 * n + b.toNat) 0

/-- The whole bytes that a frame's bits form, or `none` where a partial byte is left (R3). -/
def bytesOfBits : List Bool → Option (List Byte)
  | [] => some []
  | b7 :: b6 :: b5 :: b4 :: b3 :: b2 :: b1 :: b0 :: rest =>
    (bytesOfBits rest).map fun bs => BitVec.ofNat 8 (bitsToNat [b7, b6, b5, b4, b3, b2, b1, b0]) :: bs
  | _ => none

/-- Bit `k` of a run of bytes, the first byte's most significant bit being bit 0. -/
def bitOfBytes (bs : List Byte) (k : Nat) : Bool := (bs.getD (k / 8) 0).getLsbD (7 - k % 8)

/-! ### Text -/

/-- The character codes of a text. -/
def ascii (cs : List Char) : List Byte := cs.map fun c => BitVec.ofNat 8 c.toNat

/-- The code of a space. -/
def space : Byte := 0x20

/-- A code as the strip stores or shows it: outside 0x20..0x5F it is a space (R150, R114, R146). -/
def stripChar (c : Byte) : Byte := if 0x20 ≤ c.toNat ∧ c.toNat ≤ 0x5F then c else space

/-- The digits of `n` in decimal without leading zeros, of at most `fuel` digits. -/
def decimal (fuel n : Nat) : List Byte :=
  match fuel with
  | 0 => []
  | f + 1 => if n < 10 then [BitVec.ofNat 8 (0x30 + n)] else decimal f (n / 10) ++ [BitVec.ofNat 8 (0x30 + n % 10)]

/-- `n` in five decimal digits with leading zeros (R108). -/
def fiveDigits (n : Nat) : List Byte :=
  [n / 10000 % 10, n / 1000 % 10, n / 100 % 10, n / 10 % 10, n % 10].map fun d => BitVec.ofNat 8 (0x30 + d)

/-- Left-aligned in `w` characters, cut at `w`. -/
def padRight (w : Nat) (t : List Byte) : List Byte := (t ++ List.replicate w space).take w

/-- Right-justified in `w` characters. -/
def padLeft (w : Nat) (t : List Byte) : List Byte := List.replicate (w - t.length) space ++ t

end Sys2Proof.Machine
end

