-- ==== Sys2Proof/Config.lean ====
section
/-! DEFINITION. What an implementation of the part fixes and the spec leaves open. -/

namespace Sys2Proof

/-- FREE VALUE (log 7). Several function events of one line update are taken one after the other, and either may be taken
first (R23). `Config.pickEvent n` says which of the events still waiting is taken at the `n`-th free choice; it has no
body, so nothing can be proved of it. -/
opaque Config.pickEvent : Nat → Nat

end Sys2Proof
end

