-- ==== Sys2Proof/Machine/State.lean ====
section
/-! DEFINITION. The state of the WJ4830, block by block (00_scope.md Table 0-2), as plain data, and the state after reset. -/

namespace Sys2Proof.Machine

open Sys2Proof (Byte Eight Port Instr)

/-- One thing for each link port, or for each direction between them. -/
structure PerPort (α : Type) where
  a : α
  b : α
  deriving DecidableEq, Repr

/-- The entry of port `p`. -/
def PerPort.get {α : Type} (v : PerPort α) (p : Port) : α :=
  match p with
  | .a => v.a
  | .b => v.b

/-- The entry of port `p` replaced. -/
def PerPort.set {α : Type} (v : PerPort α) (p : Port) (x : α) : PerPort α :=
  match p with
  | .a => { v with a := x }
  | .b => { v with b := x }

/-- A timer on the 10 ms tick (00 0.4.3): stopped; started by an event and waiting for the first tick boundary after it;
or counting whole ticks. -/
inductive Timer where
  | stopped
  | started
  | counting (ticks : Nat)
  deriving DecidableEq, Repr

/-! ### Sample Port -/

/-- Sampling states (R1). -/
inductive Sampling where
  | stopped
  | running
  deriving DecidableEq, Repr

/-- Values of PACE_RATE (R2). -/
inductive PaceRate where
  | off
  | hz50
  | hz100
  | hz200
  deriving DecidableEq, Repr

/-- Tracker states (Table 3-1). -/
inductive Tracker where
  | stopped
  | sensorWait
  | parked
  | low
  | lifting
  | weighing
  | raised
  | dumping
  | returning
  deriving DecidableEq, Repr

/-- Recording phases of the trace in LIFT mode (R15). -/
inductive TracePhase where
  | waiting
  | recording
  | done
  deriving DecidableEq, Repr

/-- Modes of the Sample Trace Buffer; the phase exists in LIFT mode only (1.6.1). -/
inductive TraceMode where
  | off
  | ring
  | lift (phase : TracePhase)
  deriving DecidableEq, Repr

/-- Marks of a received sample set (R4, R5, R7, R8). -/
structure SampleMarks where
  clipped : Bool
  held : Bool
  gap : Bool
  deriving DecidableEq, Repr

/-- A trace entry (1.6.1). `theta` is absent in a set that was not accepted, which is its not-accepted mark. -/
structure TraceEntry where
  seq : Byte
  faults : Byte
  ph : Option Nat
  pr : Option Nat
  theta : Option Int
  phi : Int
  psi : Int
  marks : SampleMarks
  fRaw : Option Int
  tracker : Tracker
  deriving DecidableEq, Repr

/-- The Sample Trace Buffer (1.6.1). -/
structure Trace where
  entries : List TraceEntry
  owner : Option Port
  mode : TraceMode
  drops : Nat
  deriving DecidableEq, Repr

/-- The Sample Port (Table 1-4). -/
structure Sp where
  sampling : Sampling
  paceRate : PaceRate
  pacer : Timer
  pace : Bool
  pacePulses : Nat
  seqExpect : Option Byte
  lastTheta : Option Int
  lastPhi : Option Int
  lastPsi : Option Int
  heldAngle : Nat
  sensorFault : Bool
  cleanRun : Nat
  gapCount : Nat
  frameErrors : Nat
  lossTimer : Timer
  liveTheta : Option Int
  livePhi : Option Int
  livePsi : Option Int
  trace : Trace
  deriving DecidableEq, Repr

/-! ### Line Monitor -/

/-- Line functions (Table 2-2). -/
inductive LineFn where
  | unused
  | park
  | dumpSwitch
  | lights
  | tipOff
  | undo
  | nextTruck
  | discard
  | ackMsg
  deriving DecidableEq, Repr

/-- The LINES settings group (2.5); `inverted` has a 1 for each line of INVERTED polarity, `debounce` is in ms. -/
structure LinesRec where
  funcs : Eight LineFn
  inverted : BitVec 8
  debounce : Eight Nat
  deriving DecidableEq, Repr

/-- The level functions, and the configured status of DUMP_SWITCH (R22). -/
structure FnLevels where
  park : Bool
  dumpSwitch : Bool
  lights : Bool
  dumpConfigured : Bool
  deriving DecidableEq, Repr

/-- Watch modes; the match state exists in MATCH mode only (R26, R29). -/
inductive WatchMode where
  | off
  | matching (inMatch : Bool)
  | change
  deriving DecidableEq, Repr

/-- A port's line watch (2.6). -/
structure Watch where
  mode : WatchMode
  mask : BitVec 8
  compare : BitVec 8
  capture : Option (BitVec 8)
  count : Nat
  deriving DecidableEq, Repr

/-- The Line Monitor (Table 2-1). Bit `k` of a level set is line Lk, 1 for high. `updateDue` is the model's own: a tick has
found a difference count at its limit and the line update is not yet taken (log 6). -/
structure Lm where
  raw : BitVec 8
  debounced : BitVec 8
  diff : Eight Nat
  settings : LinesRec
  levels : FnLevels
  firstTick : Bool
  updateDue : Bool
  watch : PerPort Watch
  deriving DecidableEq, Repr

/-! ### Cycle Tracker -/

/-- Weigh abort causes (Table 3-4). -/
inductive AbortCause where
  | lowered
  | timeout
  | noData
  | park
  | sensorLost
  | stopped
  deriving DecidableEq, Repr

/-- The CYCLE settings record (R50); `dumpDwell` is in ms. -/
structure CycleRec where
  thetaLow : Int
  thetaDump : Int
  phiDump : Int
  hyst : Int
  dumpDwell : Nat
  deriving DecidableEq, Repr

/-- The Cycle Tracker (Table 3-3). -/
structure Ct where
  tracker : Tracker
  belowStart : Bool
  highTheta : Option Int
  windowTimer : Timer
  dwellTimer : Timer
  cycleRef : Timer
  latestCycle : Option Nat
  abortCause : Option AbortCause
  park : Bool
  dumpSwitch : Bool
  dumpConfigured : Bool
  cycle : CycleRec
  pendingCycle : Option CycleRec
  deriving DecidableEq, Repr

/-! ### Weigh Engine -/

/-- Window quality marks (R60). -/
structure WinMarks where
  gapped : Bool
  clipped : Bool
  slope : Bool
  deriving DecidableEq, Repr

/-- The WEIGH settings record (Table 4-5); `wtMax` is in 0.1 s. -/
structure WeighRec where
  nCyl : Int
  aHead : Int
  aRod : Int
  thetaStart : Int
  thetaEnd : Int
  filter : Nat
  minS : Nat
  minB : Nat
  kp : Int
  pitchLimit : Int
  wtMax : Nat
  deriving DecidableEq, Repr

/-- The Weigh Engine (Table 4-1). The force count of that table is the length of `history` (log 12). -/
structure We where
  history : List Int
  latestF : Option Int
  windowOpen : Bool
  gross : Eight Int
  counts : Eight Nat
  samples : Nat
  pitchSum : Int
  marks : WinMarks
  weigh : WeighRec
  pendingWeigh : Option WeighRec
  zt : Int
  deriving DecidableEq, Repr

/-! ### Calibration Unit -/

/-- States of the calibration table (R78). -/
inductive TableState where
  | empty
  | valid
  | stale
  deriving DecidableEq, Repr

/-- How the table last became VALID (R78). -/
inductive Origin where
  | calibrated
  | written
  deriving DecidableEq, Repr

/-- Calibration states (Table 5-2). -/
inductive CalState where
  | idle
  | tareArmed
  | tareLift
  | loadedWait
  | loadedArmed
  | loadedLift
  | zeroArmed
  | zeroLift
  deriving DecidableEq, Repr

/-- The lift of an outcome (R79). -/
inductive Lift where
  | tare
  | loaded
  | zero
  deriving DecidableEq, Repr

/-- The result of an outcome (R79). -/
inductive CalResult where
  | stepDone
  | done
  | failed
  deriving DecidableEq, Repr

/-- The cause of a failed outcome (R79). -/
inductive CalCause where
  | short
  | quality
  | span
  | zero
  | aborted
  | settings
  deriving DecidableEq, Repr

/-- The latest outcome (R79). -/
structure CalOutcome where
  lift : Option Lift
  result : CalResult
  cause : Option CalCause
  q : Option Nat
  marks : Option WinMarks
  failBin : Option Nat
  m1 : Option Int
  deriving DecidableEq, Repr

/-- The Calibration Unit (Table 5-1). -/
structure Cu where
  table : TableState
  tare : Eight Int
  loaded : Eight Int
  mref : Option Nat
  origin : Option Origin
  cal : CalState
  scratchTare : Option (Eight Int)
  scratchLoaded : Option (Eight Int)
  scratchMref : Option Nat
  outcome : Option CalOutcome
  deriving DecidableEq, Repr

/-! ### Load Tally -/

/-- Pass flags (R96). -/
structure PassFlags where
  short : Bool
  gapped : Bool
  clipped : Bool
  slope : Bool
  range : Bool
  uncal : Bool
  reweighed : Bool
  tipped : Bool
  deriving DecidableEq, Repr

/-- A weighed pass record (R96). -/
structure Pass where
  mass : Option Int
  flags : PassFlags
  binsUsed : Nat
  meanPitch : Int
  reweighs : Nat
  deriving DecidableEq, Repr

/-- A pass list entry (R100). -/
structure PassEntry where
  number : Nat
  mass : Option Int
  flags : PassFlags
  credited : Nat
  deriving DecidableEq, Repr

/-- Load states (R102). -/
inductive LoadState where
  | empty
  | filling
  | target
  | over
  deriving DecidableEq, Repr

/-- Close causes (6.5). -/
inductive CloseCause where
  | button
  | order
  | target
  | passLimit
  | shift
  deriving DecidableEq, Repr

/-- The open-load record (R100). -/
structure Load where
  number : Nat
  truck : Option Nat
  material : Fin 8
  target : Option Nat
  source : Option Port
  passes : List PassEntry
  total : Nat
  state : LoadState
  duration : Nat
  deriving DecidableEq, Repr

/-- The closed-load record (R121). -/
structure ClosedLoad where
  load : Load
  cause : CloseCause
  flags : PassFlags
  deriving DecidableEq, Repr

/-- The next-truck assignment (R111). -/
structure Assignment where
  truck : Option Nat
  material : Fin 8
  target : Option Nat
  source : Port
  deriving DecidableEq, Repr

/-- An entry of the material table (R113). -/
structure Material where
  name : List Byte
  density : Nat
  deriving DecidableEq, Repr

/-- BAR_MODE (Table 6-5). -/
inductive BarMode where
  | loadProgress
  | passFill
  deriving DecidableEq, Repr

/-- The LOAD settings group (Table 6-5); `autoClose` is ON_TARGET. -/
structure LoadRec where
  bucketVol : Nat
  tol : Nat
  ovr : Nat
  autoClose : Bool
  barMode : BarMode
  deriving DecidableEq, Repr

/-- The Load Tally (Table 6-1). -/
structure Lt where
  held : Option Pass
  load : Load
  durationTimer : Timer
  nextNumber : Nat
  nextTruck : Option Assignment
  materials : Eight Material
  settings : LoadRec
  deriving DecidableEq, Repr

/-! ### Load Queue -/

/-- The shift counters (Table 7-3). -/
structure Counters where
  cycles : Nat
  cycleTimeSum : Nat
  credited : Nat
  discarded : Nat
  undone : Nat
  aborts : Nat
  loadsClosed : Nat
  tonnes : Nat
  dropped : Nat
  duration : Nat
  deriving DecidableEq, Repr

/-- The shift summary (R135). -/
structure ShiftSummary where
  shiftNo : Nat
  counters : Counters
  closing : Option Nat
  deriving DecidableEq, Repr

/-- The Load Queue block (Table 7-1); the queue is oldest first. -/
structure Lq where
  queue : List ClosedLoad
  counters : Counters
  shiftTimer : Timer
  shiftNo : Nat
  lastSummary : Option ShiftSummary
  deriving DecidableEq, Repr

/-! ### Strip Driver -/

/-- The dim override (R145). -/
inductive DimOverride where
  | auto
  | on
  | off
  deriving DecidableEq, Repr

/-- The transient advisories (Table 8-6); LOAD nnnnn CLOSED carries its number. -/
inductive Advisory where
  | targetReached
  | overload
  | reWeigh
  | weighAborted
  | loadClosed (number : Nat)
  | calLiftEmpty
  | calLiftLoad
  | calDone
  | calFailed
  deriving DecidableEq, Repr

/-- Directions of a window's counter (R152). -/
inductive Direction where
  | rowFirst
  | columnFirst
  deriving DecidableEq, Repr

/-- An open window on the port text layer, with its counter (`col`, `row`) (R151). -/
structure Window where
  cs : Nat
  ce : Nat
  rs : Nat
  re : Nat
  direction : Direction
  col : Nat
  row : Nat
  deriving DecidableEq, Repr

/-- The STRIP settings group (Table 8-7); `refresh` in ms, `advisoryHold` in 0.1 s. -/
structure StripRec where
  refresh : Nat
  advisoryHold : Nat
  mirror : Bool
  deriving DecidableEq, Repr

/-- The Strip Driver (Table 8-2). `sending` is the send state, and the level of the FRAME pin (R138). `text` is the port text
layer: the cell at column `c` and row `r` has address `20 * r + c`, and an unlisted cell holds a space (R150). -/
structure Sd where
  refreshTimer : Timer
  refreshPeriod : Nat
  sending : Bool
  snapshot : Option (List Byte)
  blink : Bool
  blinkTimer : Timer
  dim : DimOverride
  lights : Bool
  advisories : List Advisory
  holdTimer : Timer
  holdTime : Nat
  text : List Host.Cell
  windows : PerPort (Option Window)
  settings : StripRec
  deriving DecidableEq, Repr

/-! ### Exchange -/

/-- A stored message (R159); `showFlag` is SHOW. -/
structure Message where
  bytes : List Byte
  showFlag : Bool
  truncated : Bool
  acked : Bool
  deriving DecidableEq, Repr

/-- The Exchange (Table 9-1). A slot is named by its sender: slot AB is the slot of port A. -/
structure Ex where
  hold : Option Port
  holdTimer : Timer
  slots : PerPort (Option Message)
  storeOrder : List Port
  deposits : PerPort (Option Nat)
  pending : PerPort (BitVec 16)
  enable : PerPort (BitVec 16)
  deriving DecidableEq, Repr

/-- The notice kinds (Table 9-3). -/
inductive Notice where
  | sensorFault
  | holdLapsed
  | calDone
  | calFailed
  | loadDropped
  | loadClosed
  | target
  | over
  | passCredited
  | weighAbort
  | msgArrived
  | msgTaken
  | msgAcked
  | lineWatch
  | traceHalf
  | linkError
  deriving DecidableEq, Repr

/-! ### Link Ports -/

/-- Frame states (Table 10-2). -/
inductive Frame where
  | expectOrder
  | params
  | reply
  | paused
  deriving DecidableEq, Repr

/-- Result codes (Table 11-1). -/
inductive ResultCode where
  | ok
  | badOrder
  | badParam
  | held
  | notHolder
  | busy
  | empty
  | stale
  | notOldest
  | slotFull
  | noMessage
  | state
  | heldPass
  | abandoned
  | stray
  deriving DecidableEq, Repr

/-- The current order: its code, the parameter bytes taken so far, and the parameters expected (`none`: not yet known,
R171). -/
structure Pending where
  code : Byte
  params : List Byte
  due : Option Nat
  deriving DecidableEq, Repr

/-- The fixed reply, result byte first (R171). Position 0 is before the turnaround clock; position `k + 1` is before the
clock that samples bit `k` (R175). -/
structure Reply where
  bytes : List Byte
  pos : Nat
  deriving DecidableEq, Repr

/-- A link port (Table 10-2). `selected` is the level of its input SEL: a port is selected while SEL is low (Table 10-1). -/
structure Lp where
  selected : Bool
  frame : Frame
  shift : List Bool
  order : Option Pending
  ended : Bool
  reply : Option Reply
  contentionSeen : Bool
  lastResult : ResultCode
  strays : Nat
  contentions : Nat
  deriving DecidableEq, Repr

/-! ### The whole part -/

/-- The state of the part. `held` is set while RESET, or power-on, holds it (00 0.5). `pending` is the model's queue of waiting
commands, first in first out; `choices` is the model's own count of free choices made among function events (log 7). -/
structure State where
  sp : Sp
  lm : Lm
  ct : Ct
  we : We
  cu : Cu
  lt : Lt
  lq : Lq
  sd : Sd
  ex : Ex
  ports : PerPort Lp
  held : Bool
  choices : Nat
  pending : List Instr
  deriving DecidableEq, Repr

/-- Reasons for a fault. The part has none: the spec describes no event that stops it, and malformed input is answered by
a result code, counted or disregarded. -/
inductive Fault where
  deriving DecidableEq, Repr

/-- Reasons for a refusal. -/
inductive Refusal where
  /-- Raised by the dispatch alone, for a command with no meaning yet; safe. No arm raises it. -/
  | notModelled (mnemonic : String)
  deriving DecidableEq, Repr

/-- What a command answers. -/
abbrev Out := Host.Outcome State Fault Refusal

/-! ### After device reset -/

/-- SP after device reset (Table 1-4). -/
def Sp.reset : Sp where
  sampling := .stopped
  paceRate := .hz100
  pacer := .stopped
  pace := false
  pacePulses := 0
  seqExpect := none
  lastTheta := none
  lastPhi := none
  lastPsi := none
  heldAngle := 0
  sensorFault := false
  cleanRun := 0
  gapCount := 0
  frameErrors := 0
  lossTimer := .stopped
  liveTheta := none
  livePhi := none
  livePsi := none
  trace := { entries := [], owner := none, mode := .off, drops := 0 }

/-- A watch after device reset (R30). -/
def Watch.reset : Watch where
  mode := .off
  mask := 0
  compare := 0
  capture := none
  count := 0

/-- The LINES group after device reset (R21, R24). -/
def LinesRec.reset : LinesRec where
  funcs := ⟨.park, .tipOff, .undo, .nextTruck, .discard, .ackMsg, .unused, .lights⟩
  inverted := 0
  debounce := Eight.fill 50

/-- LM after device reset (Table 2-3, R19). -/
def Lm.reset : Lm where
  raw := 0
  debounced := 0
  diff := Eight.fill 0
  settings := LinesRec.reset
  levels := { park := false, dumpSwitch := false, lights := false, dumpConfigured := false }
  firstTick := false
  updateDue := false
  watch := ⟨Watch.reset, Watch.reset⟩

/-- The CYCLE record after device reset (R51). -/
def CycleRec.reset : CycleRec where
  thetaLow := -250
  thetaDump := 200
  phiDump := -300
  hyst := 10
  dumpDwell := 300

/-- CT after device reset (Table 3-6). -/
def Ct.reset : Ct where
  tracker := .stopped
  belowStart := false
  highTheta := none
  windowTimer := .stopped
  dwellTimer := .stopped
  cycleRef := .stopped
  latestCycle := none
  abortCause := none
  park := false
  dumpSwitch := false
  dumpConfigured := false
  cycle := CycleRec.reset
  pendingCycle := none

/-- No window quality marks. -/
def WinMarks.none : WinMarks where
  gapped := false
  clipped := false
  slope := false

/-- The WEIGH record after device reset (Table 4-5). -/
def WeighRec.reset : WeighRec where
  nCyl := 2
  aHead := 707
  aRod := 393
  thetaStart := -100
  thetaEnd := 140
  filter := 4
  minS := 3
  minB := 5
  kp := 0
  pitchLimit := 150
  wtMax := 80

/-- WE after device reset (Table 4-6). -/
def We.reset : We where
  history := []
  latestF := none
  windowOpen := false
  gross := Eight.fill 0
  counts := Eight.fill 0
  samples := 0
  pitchSum := 0
  marks := WinMarks.none
  weigh := WeighRec.reset
  pendingWeigh := none
  zt := 0

/-- CU after device reset (Table 5-5). -/
def Cu.reset : Cu where
  table := .empty
  tare := Eight.fill 0
  loaded := Eight.fill 0
  mref := none
  origin := none
  cal := .idle
  scratchTare := none
  scratchLoaded := none
  scratchMref := none
  outcome := none

/-- No pass flags. -/
def PassFlags.none : PassFlags where
  short := false
  gapped := false
  clipped := false
  slope := false
  range := false
  uncal := false
  reweighed := false
  tipped := false

/-- The open load after device reset (R100). -/
def Load.reset : Load where
  number := 1
  truck := none
  material := 0
  target := none
  source := none
  passes := []
  total := 0
  state := .empty
  duration := 0

/-- Material entry `i` after device reset: MATi, 1,600 kg/m³ (R113). -/
def Material.reset (i : Fin 8) : Material where
  name := [0x4D, 0x41, 0x54, BitVec.ofNat 8 (0x30 + i.val)]
  density := 1600

/-- The LOAD group after device reset (Table 6-5). -/
def LoadRec.reset : LoadRec where
  bucketVol := 1050
  tol := 3
  ovr := 5
  autoClose := false
  barMode := .loadProgress

/-- LT after device reset (Table 6-6). -/
def Lt.reset : Lt where
  held := none
  load := Load.reset
  durationTimer := .stopped
  nextNumber := 2
  nextTruck := none
  materials := Eight.tabulate Material.reset
  settings := LoadRec.reset

/-- Every shift counter 0 (R127). -/
def Counters.zero : Counters where
  cycles := 0
  cycleTimeSum := 0
  credited := 0
  discarded := 0
  undone := 0
  aborts := 0
  loadsClosed := 0
  tonnes := 0
  dropped := 0
  duration := 0

/-- LQ after device reset (Table 7-4); the shift duration runs from the release of device reset (00 0.4.3). -/
def Lq.reset : Lq where
  queue := []
  counters := Counters.zero
  shiftTimer := .counting 0
  shiftNo := 1
  lastSummary := none

/-- The STRIP group after device reset (Table 8-7). -/
def StripRec.reset : StripRec where
  refresh := 50
  advisoryHold := 30
  mirror := false

/-- SD after device reset (Table 8-8); the refresh and blink timers run from the release of device reset (00 0.4.3). -/
def Sd.reset : Sd where
  refreshTimer := .counting 0
  refreshPeriod := 50
  sending := false
  snapshot := none
  blink := true
  blinkTimer := .counting 0
  dim := .auto
  lights := false
  advisories := []
  holdTimer := .stopped
  holdTime := 0
  text := []
  windows := ⟨none, none⟩
  settings := StripRec.reset

/-- EX after device reset (Table 9-4). -/
def Ex.reset : Ex where
  hold := none
  holdTimer := .stopped
  slots := ⟨none, none⟩
  storeOrder := []
  deposits := ⟨none, none⟩
  pending := ⟨0, 0⟩
  enable := ⟨0, 0⟩

/-- A link port after device reset (Table 10-2), SEL low (log 29). -/
def Lp.reset : Lp where
  selected := true
  frame := .expectOrder
  shift := []
  order := none
  ended := false
  reply := none
  contentionSeen := false
  lastResult := .ok
  strays := 0
  contentions := 0

/-- The part right after device reset, RESET released (log 1), no command waiting. -/
def State.reset : State where
  sp := Sp.reset
  lm := Lm.reset
  ct := Ct.reset
  we := We.reset
  cu := Cu.reset
  lt := Lt.reset
  lq := Lq.reset
  sd := Sd.reset
  ex := Ex.reset
  ports := ⟨Lp.reset, Lp.reset⟩
  held := false
  choices := 0
  pending := []

end Sys2Proof.Machine
end

