-- ==== Sys2Proof/Machine/Flags.lean ====
section
/-! DEFINITION. The flag sets of the part: pass flags, window quality marks, sample marks, the load state, and their coding
(Table 11-2). -/

namespace Sys2Proof.Machine

/-- A byte from its bits, bit 0 first. -/
def byteOfFlags (bs : List Bool) : Byte := BitVec.ofNat 8 (bitsToNat bs.reverse)

/-- Some window quality mark is set. -/
def WinMarks.any (m : WinMarks) : Bool := m.gapped || m.clipped || m.slope

/-- Window quality marks as a byte (Table 11-2). -/
def WinMarks.code (m : WinMarks) : Byte := byteOfFlags [m.gapped, m.clipped, m.slope]

/-- Pass flags as a byte (Table 11-2). -/
def PassFlags.code (f : PassFlags) : Byte :=
  byteOfFlags [f.short, f.gapped, f.clipped, f.slope, f.range, f.uncal, f.reweighed, f.tipped]

/-- The union of two sets of pass flags (R108). -/
def PassFlags.union (f g : PassFlags) : PassFlags where
  short := f.short || g.short
  gapped := f.gapped || g.gapped
  clipped := f.clipped || g.clipped
  slope := f.slope || g.slope
  range := f.range || g.range
  uncal := f.uncal || g.uncal
  reweighed := f.reweighed || g.reweighed
  tipped := f.tipped || g.tipped

/-- The window quality marks after a window sample with marks `m`, pitch `psi` and `hasForce` (R60). -/
def WinMarks.take (w : WinMarks) (limit psi : Int) (m : SampleMarks) (hasForce : Bool) : WinMarks where
  gapped := w.gapped || m.held || m.gap || !hasForce
  clipped := w.clipped || m.clipped
  slope := w.slope || decide (limit < psi.natAbs)

/-- The load state of a load from its pass list, total and target, with TOL and OVR (R102). -/
def loadStateOf (cfg : LoadRec) (l : Load) : LoadState :=
  if l.passes.isEmpty then .empty
  else
    match l.target with
    | none => .filling
    | some t =>
      if l.total * 100 < t * (100 - cfg.tol) then .filling
      else if l.total * 100 ≤ t * (100 + cfg.ovr) then .target
      else .over

/-- The priority number of a notice kind (Table 9-3). -/
def Notice.priority : Notice → Nat
  | .sensorFault => 0
  | .holdLapsed => 1
  | .calDone => 2
  | .calFailed => 3
  | .loadDropped => 4
  | .loadClosed => 5
  | .target => 6
  | .over => 7
  | .passCredited => 8
  | .weighAbort => 9
  | .msgArrived => 10
  | .msgTaken => 11
  | .msgAcked => 12
  | .lineWatch => 13
  | .traceHalf => 14
  | .linkError => 15

/-- The bit of a notice kind in a notice set (Table 11-2). -/
def Notice.mask (k : Notice) : BitVec 16 := 1#16 <<< k.priority

/-- Function levels as a byte (Table 11-2). -/
def FnLevels.code (l : FnLevels) : Byte := byteOfFlags [l.park, l.dumpSwitch, l.lights, l.dumpConfigured]

/-- Message flags as a byte (Table 11-2). -/
def Message.flags (m : Message) : Byte := byteOfFlags [m.showFlag, m.truncated, m.acked]

/-- The trace marks of an entry as a byte (Table 11-2). -/
def TraceEntry.marksCode (e : TraceEntry) : Byte :=
  byteOfFlags [e.marks.clipped, e.marks.held, e.marks.gap, e.theta.isNone]

end Sys2Proof.Machine
end

