-- ==== Sys2Proof/Machine/Operands.lean ====
section
/-! DEFINITION. The coding of fields on the links (11.2): enumeration codes, optional fields, parameter records read from
bytes, and the checks of each record in field order. -/

namespace Sys2Proof.Machine

open Sys2Proof

/-! ### Codes of enumerations (Table 11-2) -/

/-- Position in Table 3-1. -/
def Tracker.code : Tracker → Byte
  | .stopped => 0
  | .sensorWait => 1
  | .parked => 2
  | .low => 3
  | .lifting => 4
  | .weighing => 5
  | .raised => 6
  | .dumping => 7
  | .returning => 8

/-- Position in Table 5-2. -/
def CalState.code : CalState → Byte
  | .idle => 0
  | .tareArmed => 1
  | .tareLift => 2
  | .loadedWait => 3
  | .loadedArmed => 4
  | .loadedLift => 5
  | .zeroArmed => 6
  | .zeroLift => 7

def Sampling.code : Sampling → Byte
  | .stopped => 0
  | .running => 1

def TableState.code : TableState → Byte
  | .empty => 0
  | .valid => 1
  | .stale => 2

def Origin.code : Origin → Byte
  | .calibrated => 0
  | .written => 1

/-- Hold owner, target source and assignment source share one coding: none 0, A 1, B 2. -/
def portCode : Option Port → Byte
  | none => 0
  | some .a => 1
  | some .b => 2

def LoadState.code : LoadState → Byte
  | .empty => 0
  | .filling => 1
  | .target => 2
  | .over => 3

def CloseCause.code : CloseCause → Byte
  | .button => 0
  | .order => 1
  | .target => 2
  | .passLimit => 3
  | .shift => 4

def AbortCause.code : AbortCause → Byte
  | .lowered => 0
  | .timeout => 1
  | .noData => 2
  | .park => 3
  | .sensorLost => 4
  | .stopped => 5

def Lift.code : Lift → Byte
  | .tare => 0
  | .loaded => 1
  | .zero => 2

def CalResult.code : CalResult → Byte
  | .stepDone => 0
  | .done => 1
  | .failed => 2

def CalCause.code : CalCause → Byte
  | .short => 0
  | .quality => 1
  | .span => 2
  | .zero => 3
  | .aborted => 4
  | .settings => 5

def PaceRate.code : PaceRate → Byte
  | .off => 0
  | .hz50 => 1
  | .hz100 => 2
  | .hz200 => 3

def LineFn.code : LineFn → Byte
  | .unused => 0
  | .park => 1
  | .dumpSwitch => 2
  | .lights => 3
  | .tipOff => 4
  | .undo => 5
  | .nextTruck => 6
  | .discard => 7
  | .ackMsg => 8

def BarMode.code : BarMode → Byte
  | .loadProgress => 0
  | .passFill => 1

def WatchMode.code : WatchMode → Byte
  | .off => 0
  | .matching _ => 1
  | .change => 2

def TraceMode.code : TraceMode → Byte
  | .off => 0
  | .ring => 1
  | .lift _ => 2

def TracePhase.code : TracePhase → Byte
  | .waiting => 0
  | .recording => 1
  | .done => 2

def DimOverride.code : DimOverride → Byte
  | .auto => 0
  | .on => 1
  | .off => 2

/-- Result codes (Table 11-1). -/
def ResultCode.code : ResultCode → Byte
  | .ok => 0x00
  | .badOrder => 0x01
  | .badParam => 0x02
  | .held => 0x03
  | .notHolder => 0x04
  | .busy => 0x05
  | .empty => 0x06
  | .stale => 0x07
  | .notOldest => 0x08
  | .slotFull => 0x09
  | .noMessage => 0x0A
  | .state => 0x0B
  | .heldPass => 0x0C
  | .abandoned => 0x0D
  | .stray => 0x0E

/-! ### Enumerations read from a parameter; a code outside the field's list is refused (R180) -/

def paceRateOf (c : Byte) : Option PaceRate :=
  match c.toNat with
  | 0 => some .off
  | 1 => some .hz50
  | 2 => some .hz100
  | 3 => some .hz200
  | _ => none

def lineFnOf (c : Byte) : Option LineFn :=
  match c.toNat with
  | 0 => some .unused
  | 1 => some .park
  | 2 => some .dumpSwitch
  | 3 => some .lights
  | 4 => some .tipOff
  | 5 => some .undo
  | 6 => some .nextTruck
  | 7 => some .discard
  | 8 => some .ackMsg
  | _ => none

def dimOverrideOf (c : Byte) : Option DimOverride :=
  match c.toNat with
  | 0 => some .auto
  | 1 => some .on
  | 2 => some .off
  | _ => none

def directionOf (c : Byte) : Option Direction :=
  match c.toNat with
  | 0 => some .rowFirst
  | 1 => some .columnFirst
  | _ => none

/-- A two-valued enumeration: OFF or ON, NORMAL or INVERTED, and the like. -/
def boolOf (c : Byte) : Option Bool :=
  match c.toNat with
  | 0 => some false
  | 1 => some true
  | _ => none

def barModeOf (c : Byte) : Option BarMode :=
  match c.toNat with
  | 0 => some .loadProgress
  | 1 => some .passFill
  | _ => none

/-! ### Field checks -/

/-- The index of the first failing field, the checks being listed in field order (R179). -/
def firstFailing (checks : List Bool) : Option Nat := checks.findIdx? fun c => !c

/-- `lo ≤ x ≤ hi`. -/
def inRange (lo hi x : Int) : Bool := decide (lo ≤ x) && decide (x ≤ hi)

/-- `lo ≤ n ≤ hi`. -/
def natInRange (lo hi n : Nat) : Bool := decide (lo ≤ n) && decide (n ≤ hi)

/-- An optional parameter field passes: presence 0, or presence 1 with its value in range (R180). -/
def optPasses {w : Nat} (lo hi : Nat) (o : OptWire w) : Bool :=
  o.presence == 0 || (o.presence == 1 && natInRange lo hi o.value.toNat)

/-- The value of an optional parameter field that passes. -/
def optValue {w : Nat} (o : OptWire w) : Option Nat :=
  if o.presence == 1 then some o.value.toNat else none

/-- The three fields of SET_TARGET and SET_NEXT, checked in order (R110). -/
def targetFirstBad (t : TargetWire) : Option Nat :=
  firstFailing [optPasses 1 9999 t.truck, natInRange 0 7 t.material.toNat, optPasses 1000 200000 t.target]

/-- The low three bits of a byte as a material index; the range check stands before it (R110). -/
def materialIndex (m : Byte) : Fin 8 := ⟨m.toNat % 8, Nat.mod_lt _ (by decide)⟩

/-- The WEIGH record that a record area spells (Table 11-4). -/
def weighOfWire (w : WeighWire) : WeighRec where
  nCyl := w.nCyl.toNat
  aHead := w.aHead.toNat
  aRod := w.aRod.toNat
  thetaStart := w.thetaStart.toInt
  thetaEnd := w.thetaEnd.toInt
  filter := w.filter.toNat
  minS := w.minS.toNat
  minB := w.minB.toNat
  kp := w.kp.toInt
  pitchLimit := w.pitchLimit.toNat
  wtMax := w.wtMax.toNat

/-- The first failing field of a WEIGH record against the CYCLE records that are active or pending (R73). -/
def weighFirstBad (r : WeighRec) (cycles : List CycleRec) : Option Nat :=
  firstFailing
    [ inRange 1 2 r.nCyl,
      inRange 100 2000 r.aHead,
      inRange 50 (r.aHead - 1) r.aRod,
      inRange (-600) 700 r.thetaStart && cycles.all (fun c => decide (c.thetaLow < r.thetaStart)),
      inRange (-600) 700 r.thetaEnd && decide (r.thetaStart + 80 ≤ r.thetaEnd)
        && cycles.all (fun c => decide (r.thetaEnd ≤ c.thetaDump)),
      r.filter == 1 || r.filter == 2 || r.filter == 4 || r.filter == 8,
      natInRange 1 16 r.minS,
      natInRange 1 8 r.minB,
      inRange (-100) 100 r.kp,
      inRange 0 300 r.pitchLimit,
      natInRange 10 200 r.wtMax ]

/-- The CYCLE record that a record area spells (Table 11-4). -/
def cycleOfWire (w : CycleWire) : CycleRec where
  thetaLow := w.thetaLow.toInt
  thetaDump := w.thetaDump.toInt
  phiDump := w.phiDump.toInt
  hyst := w.hyst.toNat
  dumpDwell := w.dumpDwell.toNat

/-- The first failing field of a CYCLE record, `weigh` being the pending WEIGH record or else the active one (R50). -/
def cycleFirstBad (r : CycleRec) (weigh : WeighRec) : Option Nat :=
  firstFailing
    [ inRange (-600) 700 r.thetaLow && decide (r.thetaLow < weigh.thetaStart),
      inRange (-600) 700 r.thetaDump && decide (weigh.thetaEnd ≤ r.thetaDump),
      inRange (-900) 900 r.phiDump,
      inRange 2 50 r.hyst,
      natInRange 50 2000 r.dumpDwell && r.dumpDwell % 10 == 0 ]

/-- The first failing field of a LOAD record (R119). -/
def loadFirstBad (w : LoadWire) : Option Nat :=
  firstFailing
    [ natInRange 100 3000 w.bucketVol.toNat,
      natInRange 0 20 w.tol.toNat,
      natInRange 0 20 w.ovr.toNat,
      (boolOf w.autoClose).isSome,
      (barModeOf w.barMode).isSome ]

/-- The LOAD record that a record area spells. -/
def loadOfWire (w : LoadWire) : LoadRec where
  bucketVol := w.bucketVol.toNat
  tol := w.tol.toNat
  ovr := w.ovr.toNat
  autoClose := (boolOf w.autoClose).getD false
  barMode := (barModeOf w.barMode).getD .loadProgress

/-- A debounce time in ms: a multiple of 10 ms in 10..250 ms (R24). -/
def debouncePasses (c : Byte) : Bool := natInRange 10 250 c.toNat && c.toNat % 10 == 0

/-- The first failing field of a LINES record: functions 0..7, polarities 8..15, debounce times 16..23 (R24). -/
def linesFirstBad (w : LinesWire) : Option Nat :=
  firstFailing
    (w.funcs.toList.map (fun c => (lineFnOf c).isSome) ++ w.polarities.toList.map (fun c => (boolOf c).isSome)
      ++ w.debounce.toList.map debouncePasses)

/-- Eight bits as a level set, bit `k` for line Lk (R180). -/
def levelsOf (f : Fin 8 → Bool) : BitVec 8 := byteOfFlags (eightIndices.map f)

/-- The LINES record that a record area spells. -/
def linesOfWire (w : LinesWire) : LinesRec where
  funcs := Eight.tabulate fun k => (lineFnOf (w.funcs.get k)).getD .unused
  inverted := levelsOf fun k => (boolOf (w.polarities.get k)).getD false
  debounce := Eight.tabulate fun k => (w.debounce.get k).toNat

/-- The first failing field of a STRIP record (R153). -/
def stripFirstBad (w : StripWire) : Option Nat :=
  firstFailing
    [ natInRange 20 200 w.refresh.toNat && w.refresh.toNat % 10 == 0,
      natInRange 5 100 w.advisoryHold.toNat,
      (boolOf w.mirror).isSome ]

/-- The STRIP record that a record area spells. -/
def stripOfWire (w : StripWire) : StripRec where
  refresh := w.refresh.toNat
  advisoryHold := w.advisoryHold.toNat
  mirror := (boolOf w.mirror).getD false

/-- A force of the table: within the range of F_raw (R94). -/
def forcePasses (x : Int) : Bool := inRange (-179910000) 180000000 x

/-- The least span L_b − T_b of a table that may weigh (R87, R94). -/
def minSpan : Int := 10000

/-- The first failing field of a table record: MREF 0, T_b 1..8, L_b 9..16 with its span (R94). -/
def tableFirstBad (w : TableWire) : Option Nat :=
  firstFailing
    (natInRange 100 60000 w.mref.toNat
      :: (eightIndices.map (fun b => forcePasses (w.tare.get b).toInt)
        ++ eightIndices.map (fun b => forcePasses (w.loaded.get b).toInt
          && decide (minSpan ≤ (w.loaded.get b).toInt - (w.tare.get b).toInt))))

/-- The first failing field of WRITE_MATERIAL: index, name length, density (R114). -/
def materialFirstBad (w : MaterialWire) : Option Nat :=
  firstFailing [natInRange 0 7 w.index.toNat, natInRange 1 8 w.nameLength.toNat, natInRange 800 3000 w.density.toNat]

/-- The entry that WRITE_MATERIAL stores: the first name-length bytes, each under the character rule (R114, R182). -/
def materialOfWire (w : MaterialWire) : Material where
  name := (w.name.toList.take w.nameLength.toNat).map stripChar
  density := w.density.toNat

/-- The first failing field of OPEN_WINDOW (R151). -/
def windowFirstBad (w : WindowWire) : Option Nat :=
  firstFailing
    [ natInRange 0 19 w.cs.toNat,
      natInRange w.cs.toNat 19 w.ce.toNat,
      natInRange 0 1 w.rs.toNat,
      natInRange w.rs.toNat 1 w.re.toNat,
      (directionOf w.direction).isSome ]

/-- The window that OPEN_WINDOW opens, its counter at column cs and row rs (R151). -/
def windowOfWire (w : WindowWire) : Window where
  cs := w.cs.toNat
  ce := w.ce.toNat
  rs := w.rs.toNat
  re := w.re.toNat
  direction := (directionOf w.direction).getD .rowFirst
  col := w.cs.toNat
  row := w.rs.toNat

/-! ### Parameter records read from an order's parameter bytes (Table 11-3, Table 11-4) -/

/-- The nine SET_TARGET bytes from byte `i`. -/
def targetAt (ps : List Byte) (i : Nat) : TargetWire where
  truck := { presence := byteAt ps i, value := word16At ps (i + 1) }
  material := byteAt ps (i + 3)
  target := { presence := byteAt ps (i + 4), value := word32At ps (i + 5) }

/-- The WEIGH record area from byte `i`. -/
def weighAt (ps : List Byte) (i : Nat) : WeighWire where
  nCyl := byteAt ps i
  aHead := word16At ps (i + 1)
  aRod := word16At ps (i + 3)
  thetaStart := word16At ps (i + 5)
  thetaEnd := word16At ps (i + 7)
  filter := byteAt ps (i + 9)
  minS := byteAt ps (i + 10)
  minB := byteAt ps (i + 11)
  kp := byteAt ps (i + 12)
  pitchLimit := word16At ps (i + 13)
  wtMax := byteAt ps (i + 15)

/-- The CYCLE record area from byte `i`. -/
def cycleAt (ps : List Byte) (i : Nat) : CycleWire where
  thetaLow := word16At ps i
  thetaDump := word16At ps (i + 2)
  phiDump := word16At ps (i + 4)
  hyst := byteAt ps (i + 6)
  dumpDwell := word16At ps (i + 7)

/-- The LOAD record area from byte `i`. -/
def loadAt (ps : List Byte) (i : Nat) : LoadWire where
  bucketVol := word16At ps i
  tol := byteAt ps (i + 2)
  ovr := byteAt ps (i + 3)
  autoClose := byteAt ps (i + 4)
  barMode := byteAt ps (i + 5)

/-- The LINES record area from byte `i`. -/
def linesAt (ps : List Byte) (i : Nat) : LinesWire where
  funcs := eightAt ps i
  polarities := eightAt ps (i + 8)
  debounce := eightAt ps (i + 16)

/-- The STRIP record area from byte `i`. -/
def stripAt (ps : List Byte) (i : Nat) : StripWire where
  refresh := byteAt ps i
  advisoryHold := byteAt ps (i + 1)
  mirror := byteAt ps (i + 2)

/-- The 66 bytes of WRITE_TABLE. -/
def tableAt (ps : List Byte) : TableWire where
  mref := word16At ps 0
  tare := eight32At ps 2
  loaded := eight32At ps 34

/-- The 12 bytes of WRITE_MATERIAL. -/
def materialAt (ps : List Byte) : MaterialWire where
  index := byteAt ps 0
  nameLength := byteAt ps 1
  name := eightAt ps 2
  density := word16At ps 10

/-- The five bytes of OPEN_WINDOW. -/
def windowAt (ps : List Byte) : WindowWire where
  cs := byteAt ps 0
  ce := byteAt ps 1
  rs := byteAt ps 2
  re := byteAt ps 3
  direction := byteAt ps 4

end Sys2Proof.Machine
end

