-- ==== Sys2Proof/Machine/Ops.lean ====
section
/-! DEFINITION. The operations that the blocks share: timers, notices, advisories, the port text layer, the calibration hold,
message storage, and taking an order on a port. -/

namespace Sys2Proof.Machine

open Sys2Proof

/-- The port that is not `p` (R154). -/
def other : Port → Port
  | .a => .b
  | .b => .a

/-- A command's effect: while RESET holds the part it stays in the state after device reset (00 0.5); otherwise `f`. The edges of
SEL, whose level is the master's, are taken at any time (R169). -/
def live (s : State) (f : State → State) : Out := .next (if s.held then s else f s)

/-! ### Timers (00 0.4.3) -/

/-- One tick boundary: a timer started since the last one begins to count, a counting timer counts up to its period. -/
def Timer.tick (period : Nat) : Timer → Timer
  | .stopped => .stopped
  | .started => .counting 0
  | .counting n => .counting (if n < period then n + 1 else n)

/-- The timer has reached its period, so its expiry can be taken. -/
def Timer.due (period : Nat) : Timer → Bool
  | .counting n => decide (period ≤ n)
  | _ => false

/-- The whole ticks counted. -/
def Timer.ticks : Timer → Nat
  | .counting n => n
  | _ => 0

/-! ### Notices (9.4) -/

/-- A notice of kind `k` is raised to port `p`: its pending flag is set (R164). -/
def State.raise (p : Port) (k : Notice) (s : State) : State :=
  { s with ex.pending := s.ex.pending.set p (s.ex.pending.get p ||| k.mask) }

/-- A notice of kind `k` is raised to both ports. -/
def State.raiseBoth (k : Notice) (s : State) : State := (s.raise .a k).raise .b k

/-- ATN of port `p`: some kind of its set is both pending and enabled (R168). -/
def State.atn (p : Port) (s : State) : Bool := s.ex.pending.get p &&& s.ex.enable.get p != 0

/-! ### Transient advisories (8.7) -/

/-- A block queues an advisory (R148): appended while fewer than 4 are in the queue, else it replaces the newest entry. An
advisory that starts to show fixes its hold time (R149). -/
def State.queueAdvisory (x : Advisory) (s : State) : State :=
  match s.sd.advisories with
  | [] =>
    { s with sd.advisories := [x], sd.holdTimer := .started, sd.holdTime := s.sd.settings.advisoryHold }
  | q => if q.length < 4 then { s with sd.advisories := q ++ [x] } else { s with sd.advisories := q.dropLast ++ [x] }

/-! ### The port text layer (8.8): an addressed buffer of 40 cells, unlisted cells holding a space (R150) -/

/-- The address of the cell at column `c`, row `r`. -/
def textAddr (c r : Nat) : Nat := 20 * r + c

/-- The character at an address of the layer. -/
def textRead : List Host.Cell → Nat → Byte
  | [], _ => space
  | (k, v) :: rest, a => if k = a then v else textRead rest a

/-- The layer with the character `v` at address `a`; a space unlists the cell. -/
def textWrite : List Host.Cell → Nat → Byte → List Host.Cell
  | [], a, v => if v = space then [] else [(a, v)]
  | (k, w) :: rest, a, v =>
    if a < k then (if v = space then (k, w) :: rest else (a, v) :: (k, w) :: rest)
    else if a = k then (if v = space then rest else (a, v) :: rest)
    else (k, w) :: textWrite rest a v

/-- The canonical form of the layer: addresses strictly rising and below 40, no listed space, every code in 0x20..0x5F. -/
def textWf : List Host.Cell → Bool
  | [] => true
  | (k, v) :: rest =>
    decide (k < 40) && decide (v ≠ space) && decide (stripChar v = v)
      && (match rest with
          | [] => true
          | (k2, _) :: _ => decide (k < k2))
      && textWf rest

/-- The characters of row `r` of the layer. -/
def textRow (m : List Host.Cell) (r : Nat) : List Byte := (List.range 20).map fun c => textRead m (textAddr c r)

/-! ### The Sample Trace Buffer -/

/-- The end of a window ends recording in LIFT mode (R15, R40). -/
def State.endTrace (s : State) : State :=
  match s.sp.trace.mode with
  | .lift .recording => { s with sp.trace.mode := .lift .done }
  | _ => s

/-! ### Shift counters (7.5) -/

/-- Saturation of the 16-bit counters (Table 7-3). -/
def top16 : Nat := 65535

/-- Saturation of the 32-bit sums (Table 7-3). -/
def top32 : Nat := 4294967295

/-! ### The calibration hold (9.2) -/

/-- The other port holds the hold. -/
def State.heldByOther (p : Port) (s : State) : Bool := s.ex.hold == some (other p)

/-- Port `p` holds the hold. -/
def State.holds (p : Port) (s : State) : Bool := s.ex.hold == some p

/-- The idle timer restarts at each order from the holder's port that is taken (R157). -/
def State.restartHold (p : Port) (s : State) : State :=
  if s.holds p then { s with ex.holdTimer := .started } else s

/-! ### Message slots (9.3); a slot is named by its sender -/

/-- A message is stored in the slot of sender `p` (R159 to R161). -/
def State.storeMessage (p : Port) (m : Message) (s : State) : State :=
  { s with
    ex.slots := s.ex.slots.set p (some m)
    ex.storeOrder := s.ex.storeOrder ++ [p]
    ex.deposits := s.ex.deposits.set p none }.raise (other p) .msgArrived

/-- The SHOW flag of a deposit: bit 0 of its second parameter (R180). -/
def showOf (params : List Byte) : Bool := (byteAt params 1).getLsbD 0

/-- A deposit in progress is abandoned with the parameters `params` taken (R161). -/
def State.abandonDeposit (p : Port) (params : List Byte) (s : State) : State :=
  match s.ex.deposits.get p with
  | none => s
  | some k =>
    if k = 0 then { s with ex.deposits := s.ex.deposits.set p none }
    else s.storeMessage p
      { bytes := params.drop 2, showFlag := showOf params, truncated := true, acked := false }

/-! ### Orders on a link port (Chapter 10) -/

/-- Port `p` replaced. -/
def State.setPort (p : Port) (q : Lp) (s : State) : State := { s with ports := s.ports.set p q }

/-- What an order does: the new state, the result and the reply bytes after the result byte (R171). -/
structure Answer where
  state : State
  result : ResultCode
  reply : List Byte
  deriving DecidableEq, Repr

/-- Result OK with a reply that changes nothing: the read orders. -/
def Answer.read (s : State) (reply : List Byte) : Answer := ⟨s, .ok, reply⟩

/-- Result OK with an empty reply. -/
def Answer.done (s : State) : Answer := ⟨s, .ok, []⟩

/-- A refusal with an empty reply: nothing changes. -/
def Answer.refuse (s : State) (r : ResultCode) : Answer := ⟨s, r, []⟩

/-- BAD_PARAM, its reply naming the failing field (R179). -/
def Answer.badParam (s : State) (field : Nat) : Answer := ⟨s, .badParam, u8 field⟩

/-- An order is taken on port `p` (R171): it is executed, its result and reply are fixed, the frame enters REPLY, and the
hold's idle timer restarts if `p` is the holder (R157). -/
def State.take (p : Port) (order : State → Answer) (s : State) : State :=
  let ans := order s
  let t := ans.state.restartHold p
  t.setPort p { t.ports.get p with
    frame := .reply, shift := [], order := none, ended := false
    reply := some ⟨ans.result.code :: ans.reply, 0⟩, contentionSeen := false, lastResult := ans.result }

/-- The parameter bytes of the current order taken so far (Table 10-2). -/
def Lp.paramsTaken (q : Lp) : List Byte :=
  match q.order with
  | none => []
  | some o => o.params

/-- A kind-0 unit in PARAMS abandons the pending order, or forfeits the reply of an order already settled (R174). The frame
is then as in EXPECT_ORDER. -/
def State.abandon (p : Port) (s : State) : State :=
  let q := s.ports.get p
  if q.ended then
    s.setPort p { q with frame := .expectOrder, shift := [], order := none, ended := false, reply := none }
  else
    (s.abandonDeposit p q.paramsTaken).setPort p
      { q with frame := .expectOrder, shift := [], order := none, reply := none, lastResult := .abandoned }

/-- What units and clocks do on port `p`: while SEL is high, rising edges of CLK sample nothing, and no unit completes (R169). -/
def State.whileSelected (p : Port) (f : State → State) (s : State) : State := if (s.ports.get p).selected then f s else s

/-- An order that has completed on port `p`, its parameters with it: in EXPECT_ORDER it is taken, in PARAMS the pending order is
first abandoned (R170, R174). In REPLY and PAUSED no unit completes, so no order is taken (Table 10-3, log 8). -/
def State.orderUnits (p : Port) (order : State → Answer) (s : State) : State :=
  match (s.ports.get p).frame with
  | .expectOrder => s.take p order
  | .params => (s.abandon p).take p order
  | .reply => s
  | .paused => s

/-- A whole order comes on port `p` (R169 to R171). -/
def State.takeOrder (p : Port) (order : State → Answer) (s : State) : State := s.whileSelected p (State.orderUnits p order)

end Sys2Proof.Machine
end

