-- ==== Sys2Proof/Machine/Records.lean ====
section
/-! DEFINITION. The reply records of Chapter 11 (Table 11-4), as the bytes that are sent. -/

namespace Sys2Proof.Machine

open Sys2Proof

/-- Pass entry (11 bytes). -/
def PassEntry.bytes (e : PassEntry) : List Byte :=
  u8 e.number ++ optField 4 i32 e.mass ++ [e.flags.code] ++ u32 e.credited

/-- Open-load record (20 + 11n bytes). -/
def Load.bytes (l : Load) : List Byte :=
  u16 l.number ++ optField 2 u16 l.truck ++ u8 l.material.val ++ optField 4 u32 l.target ++ [portCode l.source]
    ++ [l.state.code] ++ u16 l.duration ++ u32 l.total ++ u8 l.passes.length ++ l.passes.flatMap PassEntry.bytes

/-- Closed-load record (22 + 11n bytes). -/
def ClosedLoad.bytes (c : ClosedLoad) : List Byte := c.load.bytes ++ [c.cause.code] ++ [c.flags.code]

/-- The next-truck assignment in READ_OPEN_LOAD (11 bytes): a presence byte and its fields, zeros when it is empty. -/
def assignmentBytes : Option Assignment → List Byte
  | none => List.replicate 11 0
  | some x =>
    [1] ++ optField 2 u16 x.truck ++ u8 x.material.val ++ optField 4 u32 x.target ++ [portCode (some x.source)]

/-- Shift counters (23 bytes). -/
def Counters.bytes (c : Counters) : List Byte :=
  u16 c.cycles ++ u32 c.cycleTimeSum ++ u16 c.credited ++ u16 c.discarded ++ u16 c.undone ++ u16 c.aborts
    ++ u16 c.loadsClosed ++ u32 c.tonnes ++ u8 c.dropped ++ u16 c.duration

/-- Shift summary (27 bytes). -/
def ShiftSummary.bytes (m : ShiftSummary) : List Byte :=
  u8 m.shiftNo ++ m.counters.bytes ++ optField 2 u16 m.closing

/-- The number of the oldest record in the queue, as an optional field (R125, R133). -/
def oldestField (q : List ClosedLoad) : List Byte := optField 2 u16 (q.head?.map fun c => c.load.number)

/-- SAMPLE record (1 byte). -/
def PaceRate.bytes (r : PaceRate) : List Byte := [r.code]

/-- WEIGH record (16 bytes). -/
def WeighRec.bytes (r : WeighRec) : List Byte :=
  i8 r.nCyl ++ i16 r.aHead ++ i16 r.aRod ++ i16 r.thetaStart ++ i16 r.thetaEnd ++ u8 r.filter ++ u8 r.minS
    ++ u8 r.minB ++ i8 r.kp ++ i16 r.pitchLimit ++ u8 r.wtMax

/-- CYCLE record (9 bytes). -/
def CycleRec.bytes (r : CycleRec) : List Byte :=
  i16 r.thetaLow ++ i16 r.thetaDump ++ i16 r.phiDump ++ i8 r.hyst ++ u16 r.dumpDwell

/-- LOAD record (6 bytes). -/
def LoadRec.bytes (r : LoadRec) : List Byte :=
  u16 r.bucketVol ++ u8 r.tol ++ u8 r.ovr ++ [bit8 r.autoClose] ++ [r.barMode.code]

/-- LINES record (24 bytes). -/
def LinesRec.bytes (r : LinesRec) : List Byte :=
  r.funcs.toList.map LineFn.code ++ eightIndices.map (fun k => bit8 (r.inverted.getLsbD k.val))
    ++ r.debounce.toList.map (fun n => BitVec.ofNat 8 n)

/-- STRIP record (3 bytes). -/
def StripRec.bytes (r : StripRec) : List Byte := u8 r.refresh ++ u8 r.advisoryHold ++ [bit8 r.mirror]

/-- Message (2 + L bytes): length, flags, the bytes as deposited. -/
def Message.record (m : Message) : List Byte := u8 m.bytes.length ++ [m.flags] ++ m.bytes

/-- State and length of a slot in READ_NOTICES: state bit 0 FULL, bit 1 ACKED; length 0 for an EMPTY slot. -/
def slotBytes : Option Message → List Byte
  | none => [0, 0]
  | some m => [byteOfFlags [true, m.acked]] ++ u8 m.bytes.length

/-- The phase of the trace, present while the mode is LIFT (R185). -/
def phaseField : TraceMode → List Byte
  | .lift ph => [1, ph.code]
  | _ => [0, 0]

/-- Trace entry (21 bytes); the angle bytes of a set that was not accepted are zeros (R185). -/
def TraceEntry.bytes (e : TraceEntry) : List Byte :=
  [e.seq] ++ [e.faults] ++ optField 2 u16 e.ph ++ optField 2 u16 e.pr ++ i16 (e.theta.getD 0) ++ i16 e.phi ++ i16 e.psi
    ++ [e.marksCode] ++ optField 4 i32 e.fRaw ++ [e.tracker.code]

/-- TRACE_READ reply: the five header bytes, then `es` (R16, R183). -/
def traceBytes (es : List TraceEntry) (t : Trace) : List Byte :=
  u8 es.length ++ u8 t.drops ++ [t.mode.code] ++ phaseField t.mode ++ es.flatMap TraceEntry.bytes

/-- The held pass in the live record: a presence byte and ten bytes, zeros when no pass is held (R184). -/
def heldBytes : Option Pass → List Byte
  | none => List.replicate 11 0
  | some x => [1] ++ optField 4 i32 x.mass ++ [x.flags.code] ++ u8 x.binsUsed ++ i16 x.meanPitch ++ u8 x.reweighs

/-- Live record (63 bytes). -/
def State.liveRecord (s : State) : List Byte :=
  [s.ct.tracker.code] ++ [s.sp.sampling.code] ++ [bit8 s.sp.sensorFault]
    ++ optField 2 i16 s.sp.liveTheta ++ optField 2 i16 s.sp.livePhi ++ optField 2 i16 s.sp.livePsi
    ++ optField 4 i32 s.we.latestF ++ u16 s.sp.gapCount ++ u16 s.sp.frameErrors
    ++ optField 1 (fun c => [AbortCause.code c]) s.ct.abortCause ++ optField 2 u16 s.ct.latestCycle
    ++ heldBytes s.lt.held
    ++ u16 s.lt.load.number ++ optField 2 u16 s.lt.load.truck ++ u8 s.lt.load.material.val
    ++ optField 4 u32 s.lt.load.target ++ [s.lt.load.state.code] ++ u8 s.lt.load.passes.length ++ u32 s.lt.load.total
    ++ [s.cu.table.code] ++ [portCode s.ex.hold] ++ [s.cu.cal.code] ++ i16 s.we.zt
    ++ optField 1 (fun o => [CalResult.code o.result]) s.cu.outcome
    ++ optField 1 (fun c => [CalCause.code c]) (s.cu.outcome.bind fun o => o.cause)

/-- The latest outcome in READ_TABLE (17 bytes), zeros while there is none (R95). -/
def outcomeBytes : Option CalOutcome → List Byte
  | none => List.replicate 17 0
  | some o =>
    [1] ++ optField 1 (fun l => [Lift.code l]) o.lift ++ [o.result.code] ++ optField 1 (fun c => [CalCause.code c]) o.cause
      ++ optField 1 u8 o.q ++ optField 1 (fun m => [WinMarks.code m]) o.marks ++ optField 1 u8 o.failBin
      ++ optField 4 i32 o.m1

/-- The scratch tare is reported in these states (R95). -/
def CalState.hasScratchTare (c : CalState) : Bool := c == .loadedWait || c == .loadedArmed || c == .loadedLift

/-- The scratch MREF is reported in these states (R95). -/
def CalState.hasScratchMref (c : CalState) : Bool := c == .loadedArmed || c == .loadedLift

/-- Eight forces, four bytes each. -/
def forcesBytes (v : Eight Int) : List Byte := v.toList.flatMap i32

/-- READ_TABLE reply (126 bytes). -/
def State.tableRecord (s : State) : List Byte :=
  [s.cu.table.code] ++ optField 1 (fun o => [Origin.code o]) s.cu.origin
    ++ (if s.cu.table = .empty then List.replicate 67 0
        else [1] ++ u16 (s.cu.mref.getD 0) ++ forcesBytes s.cu.tare ++ forcesBytes s.cu.loaded)
    ++ i16 s.we.zt ++ [s.cu.cal.code]
    ++ optField 32 forcesBytes (if s.cu.cal.hasScratchTare then s.cu.scratchTare else none)
    ++ optField 2 u16 (if s.cu.cal.hasScratchMref then s.cu.scratchMref else none)
    ++ outcomeBytes s.cu.outcome

end Sys2Proof.Machine
end

