-- ==== Sys2Proof/Machine/Queue.lean ====
section
/-! DEFINITION. The Load Queue and the shift counters (Chapter 7): what other blocks hand to LQ, and the orders on the queue. -/

namespace Sys2Proof.Machine

open Sys2Proof

/-- One counted cycle and its time in 0.1 s (R128). -/
def State.countCycle (t : Nat) (s : State) : State :=
  { s with
    lq.counters.cycles := satAdd top16 s.lq.counters.cycles 1
    lq.counters.cycleTimeSum := satAdd top32 s.lq.counters.cycleTimeSum t }

/-- One credited pass (R129). -/
def State.countCredit (s : State) : State :=
  { s with lq.counters.credited := satAdd top16 s.lq.counters.credited 1 }

/-- One discarded pass (R129). -/
def State.countDiscard (s : State) : State :=
  { s with lq.counters.discarded := satAdd top16 s.lq.counters.discarded 1 }

/-- One undone pass (R129). -/
def State.countUndo (s : State) : State :=
  { s with lq.counters.undone := satAdd top16 s.lq.counters.undone 1 }

/-- One weigh abort (R130). -/
def State.countAbort (s : State) : State :=
  { s with lq.counters.aborts := satAdd top16 s.lq.counters.aborts 1 }

/-- One closed load of `total` kg (R131). -/
def State.countClose (total : Nat) (s : State) : State :=
  { s with
    lq.counters.loadsClosed := satAdd top16 s.lq.counters.loadsClosed 1
    lq.counters.tonnes := satAdd top32 s.lq.counters.tonnes total }

/-- The most records the Load Queue holds (R122). -/
def queueCapacity : Nat := 32

/-- A record is handed to LQ: a full queue first drops its oldest record (R122, R123). -/
def State.enqueue (c : ClosedLoad) (s : State) : State :=
  if s.lq.queue.length < queueCapacity then { s with lq.queue := s.lq.queue ++ [c] }
  else
    { s with
      lq.queue := s.lq.queue.tail ++ [c]
      lq.counters.dropped := satAdd 255 s.lq.counters.dropped 1 }.raiseBoth .loadDropped

/-- COLLECT_LOAD (R124). -/
def orderCollectLoad (s : State) : Answer :=
  match s.lq.queue with
  | [] => Answer.refuse s .empty
  | c :: _ => Answer.read s (u8 s.lq.queue.length ++ c.bytes)

/-- The four reply bytes of RELEASE_LOAD (R125). -/
def releaseReply (q : List ClosedLoad) : List Byte := u8 q.length ++ oldestField q

/-- RELEASE_LOAD (R125). -/
def orderReleaseLoad (number : BitVec 16) (s : State) : Answer :=
  if number.toNat = 0 then Answer.badParam s 0
  else
    match s.lq.queue with
    | [] => ⟨s, .empty, releaseReply []⟩
    | c :: rest =>
      if c.load.number = number.toNat then ⟨{ s with lq.queue := rest }, .ok, releaseReply rest⟩
      else if rest.any (fun d => d.load.number == number.toNat) then ⟨s, .notOldest, releaseReply s.lq.queue⟩
      else ⟨s, .stale, releaseReply s.lq.queue⟩

/-- The last shift summary in READ_SHIFT: a presence byte and 27 bytes (Table 11-4). -/
def lastSummaryBytes (m : Option ShiftSummary) : List Byte := optField 27 ShiftSummary.bytes m

/-- READ_SHIFT (R133). -/
def orderReadShift (s : State) : Answer :=
  Answer.read s
    (u8 s.lq.shiftNo ++ s.lq.counters.bytes ++ u8 s.lq.queue.length ++ oldestField s.lq.queue
      ++ lastSummaryBytes s.lq.lastSummary)

/-- Ticks in a second. -/
def secondTicks : Nat := 100

/-- A whole second of the shift has passed (R132). -/
def State.shiftSecond (s : State) : State :=
  if s.lq.shiftTimer.due secondTicks then
    { s with lq.counters.duration := satAdd top16 s.lq.counters.duration 1, lq.shiftTimer := .counting 0 }
  else s

/-! ### Meanings -/

/-- COLLECT_LOAD. -/
def execCollectLoad (p : Port) (s : State) : Out := live s (State.takeOrder p orderCollectLoad)

/-- RELEASE_LOAD. -/
def execReleaseLoad (p : Port) (number : BitVec 16) (s : State) : Out :=
  live s (State.takeOrder p (orderReleaseLoad number))

/-- READ_SHIFT. -/
def execReadShift (p : Port) (s : State) : Out := live s (State.takeOrder p orderReadShift)

/-- SHIFT_DURATION_TICK (R132). -/
def execShiftDurationTick (s : State) : Out := live s State.shiftSecond

end Sys2Proof.Machine
end

