-- ==== Sys2Proof/Machine/Tally.lean ====
section
/-! DEFINITION. The Load Tally (Chapter 6): the held pass, the open load, crediting, closing, materials, fill and advice, and
the order that ends a shift (R134), which closes the open load. -/

namespace Sys2Proof.Machine

open Sys2Proof

/-! ### Capacity, fill and advice (6.8) -/

/-- The capacity in kg (R115). -/
def State.capacity (s : State) : Nat :=
  roundNat (s.lt.settings.bucketVol * (s.lt.materials.get s.lt.load.material).density) 100

/-- The credited mass of a pass of this mass (R67, R104). -/
def creditedMass : Option Int → Nat
  | none => 0
  | some m => m.toNat

/-- The fill in percent of a credited mass (R116). -/
def fillPercent (credited capacity : Nat) : Nat := min 199 (roundNat (credited * 100) capacity)

/-- The remaining mass, absent without a target (R117). -/
def State.remaining (s : State) : Option Int := s.lt.load.target.map fun t => (t : Int) - s.lt.load.total

/-- The last-pass advice in percent (R117). -/
def State.advice (s : State) : Option Nat :=
  match s.remaining with
  | none => none
  | some r =>
    if 0 < r ∧ r ≤ s.capacity then some (max 1 (roundNat (r.toNat * 100) s.capacity)) else none

/-! ### The held pass (6.2) -/

/-- WE hands LT a weighed pass: it becomes the held pass, or replaces it as a re-weigh (R97). -/
def State.acceptPass (x : Pass) (s : State) : State :=
  match s.lt.held with
  | none => { s with lt.held := some x }
  | some old =>
    let again : Pass :=
      { x with
        flags := { x.flags with reweighed := true, tipped := false }
        reweighs := satAdd 15 old.reweighs 1 }
    { s with lt.held := some again }

/-- A TIP_OFF event (R98). -/
def State.tipOff (s : State) : State :=
  match s.lt.held with
  | none => s
  | some x => { s with lt.held := some { x with flags := { x.flags with tipped := true } } }.queueAdvisory .reWeigh

/-- A DISCARD event (R99). -/
def State.discardPass (s : State) : State :=
  match s.lt.held with
  | none => s
  | some _ => { s with lt.held := none }.countDiscard

/-! ### The open load (6.3 to 6.5) -/

/-- The load state of the open load is recomputed, without notice (R102, R103). -/
def State.recomputeLoad (s : State) : State :=
  { s with lt.load.state := loadStateOf s.lt.settings s.lt.load }

/-- Entry into TARGET or OVER from `old` raises that notice and queues its advisory (R103). -/
def State.announceLoad (old : LoadState) (s : State) : State :=
  if s.lt.load.state = old then s
  else
    match s.lt.load.state with
    | .target => (s.raiseBoth .target).queueAdvisory .targetReached
    | .over => (s.raiseBoth .over).queueAdvisory .overload
    | _ => s

/-- The number after `n`: 65,535 is followed by 1 (R109). -/
def nextLoadNumber (n : Nat) : Nat := if n = 65535 then 1 else n + 1

/-- The next load opens (R109). -/
def State.openNextLoad (s : State) : State :=
  let fresh : Load :=
    { number := s.lt.nextNumber, truck := none, material := s.lt.load.material, target := s.lt.load.target,
      source := none, passes := [], total := 0, state := .empty, duration := 0 }
  let opened : Load :=
    match s.lt.nextTruck with
    | none => fresh
    | some x =>
      { fresh with
        truck := x.truck, material := x.material, target := x.target
        source := if x.target.isSome then some x.source else none }
  { s with
    lt.load := opened
    lt.durationTimer := .stopped
    lt.nextNumber := nextLoadNumber s.lt.nextNumber
    lt.nextTruck := none }

/-- The closed-load record of the open load (R108). -/
def closedRecord (cause : CloseCause) (l : Load) : ClosedLoad where
  load := l
  cause := cause
  flags := l.passes.foldl (fun f e => f.union e.flags) PassFlags.none

/-- A close (R108): LQ counts it before it appends the record (R131). -/
def State.closeLoad (cause : CloseCause) (s : State) : State :=
  ((((s.countClose s.lt.load.total).enqueue (closedRecord cause s.lt.load)).raiseBoth .loadClosed).queueAdvisory
    (.loadClosed s.lt.load.number)).openNextLoad

/-- The most passes a load holds (R100). -/
def passLimit : Nat := 12

/-- Step 1 of a credit: a load that holds 12 passes closes first (R104). -/
def State.makeRoom (s : State) : State :=
  if s.lt.load.passes.length < passLimit then s else s.closeLoad .passLimit

/-- Steps 2 to 4 of a credit: the entry is appended, the total rises, the held pass becomes none (R104). A first pass starts the
duration timer on the tick boundary of the dump entry (R101, log 4). -/
def State.appendPass (x : Pass) (s : State) : State :=
  let l := s.lt.load
  let c := creditedMass x.mass
  { s with
    lt.load.passes := l.passes ++ [{ number := l.passes.length + 1, mass := x.mass, flags := x.flags, credited := c }]
    lt.load.total := l.total + c
    lt.durationTimer := if l.passes.isEmpty then .counting 0 else s.lt.durationTimer
    lt.held := none }

/-- Step 7 of a credit (R105). -/
def State.autoClose (s : State) : State :=
  if s.lt.settings.autoClose ∧ (s.lt.load.state = .target ∨ s.lt.load.state = .over) then s.closeLoad .target else s

/-- A dump entry handed to LT: the held pass, if there is one, is credited (R104). -/
def State.credit (s : State) : State :=
  match s.lt.held with
  | none => s
  | some x =>
    let s1 := s.makeRoom
    let s2 := (s1.appendPass x).countCredit.raiseBoth .passCredited
    (s2.recomputeLoad.announceLoad s1.lt.load.state).autoClose

/-- An UNDO event (R106). -/
def State.undoPass (s : State) : State :=
  match s.lt.load.passes.getLast? with
  | none => s
  | some e =>
    let rest := s.lt.load.passes.dropLast
    ({ s with
        lt.load.passes := rest
        lt.load.total := s.lt.load.total - e.credited
        lt.load.duration := if rest.isEmpty then 0 else s.lt.load.duration
        lt.durationTimer := if rest.isEmpty then .stopped else s.lt.durationTimer }).recomputeLoad.countUndo

/-- A NEXT_TRUCK event (R107). -/
def State.nextTruckEvent (s : State) : State :=
  if s.lt.load.passes.isEmpty then s else s.closeLoad .button

/-- A whole second since the load's first credit (R101). -/
def State.loadSecond (s : State) : State :=
  if s.lt.durationTimer.due secondTicks then
    { s with lt.load.duration := satAdd top16 s.lt.load.duration 1, lt.durationTimer := .counting 0 }
  else s

/-! ### Orders -/

/-- READ_OPEN_LOAD (R112). -/
def orderReadOpenLoad (s : State) : Answer :=
  Answer.read s
    (s.lt.load.bytes ++ u32 s.capacity ++ optField 4 i32 s.remaining ++ optField 1 u8 s.advice
      ++ assignmentBytes s.lt.nextTruck)

/-- The open load with the three fields of an accepted SET_TARGET from port `p` (R110). -/
def Load.withTarget (p : Port) (t : TargetWire) (l : Load) : Load :=
  { l with
    truck := optValue t.truck
    material := materialIndex t.material
    target := optValue t.target
    source := if (optValue t.target).isSome then some p else none }

/-- SET_TARGET (R110). -/
def orderSetTarget (p : Port) (t : TargetWire) (s : State) : Answer :=
  match targetFirstBad t with
  | some i => Answer.badParam s i
  | none =>
    let s1 := ({ s with lt.load := s.lt.load.withTarget p t }).recomputeLoad.announceLoad s.lt.load.state
    ⟨s1, .ok, u16 s1.lt.load.number ++ [s1.lt.load.state.code]⟩

/-- SET_NEXT (R111, R182). -/
def orderSetNext (p : Port) (noneFlag : Byte) (t : TargetWire) (s : State) : Answer :=
  if noneFlag.getLsbD 0 then Answer.done { s with lt.nextTruck := none }
  else
    match targetFirstBad t with
    | some i => Answer.badParam s i
    | none =>
      let next : Assignment :=
        { truck := optValue t.truck, material := materialIndex t.material, target := optValue t.target, source := p }
      Answer.done { s with lt.nextTruck := some next }

/-- CLOSE_LOAD (R107). -/
def orderCloseLoad (s : State) : Answer :=
  if s.lt.load.passes.isEmpty then Answer.refuse s .empty
  else ⟨s.closeLoad .order, .ok, u16 s.lt.load.number⟩

/-- READ_MATERIAL (R114, R182). -/
def orderReadMaterial (index : Byte) (s : State) : Answer :=
  if natInRange 0 7 index.toNat then
    let m := s.lt.materials.get (materialIndex index)
    Answer.read s (u8 m.name.length ++ padRight 8 m.name ++ u16 m.density)
  else Answer.badParam s 0

/-- WRITE_MATERIAL (R114, R182). -/
def orderWriteMaterial (w : MaterialWire) (s : State) : Answer :=
  match materialFirstBad w with
  | some i => Answer.badParam s i
  | none => Answer.done { s with lt.materials := s.lt.materials.set (materialIndex w.index) (materialOfWire w) }

/-- The shift number after `n`: 255 is followed by 1 (R134). -/
def nextShiftNumber (n : Nat) : Nat := if n = 255 then 1 else n + 1

/-- Step 1 of SHIFT_END: an open load that has a pass closes with cause SHIFT (R134). -/
def State.shiftClose (s : State) : State :=
  if s.lt.load.passes.isEmpty then s else s.closeLoad .shift

/-- The summary of the ending shift, from the counters after step 1 (R135). -/
def shiftSummaryOf (before after : State) : ShiftSummary where
  shiftNo := after.lq.shiftNo
  counters := after.lq.counters
  closing := if before.lt.load.passes.isEmpty then none else some before.lt.load.number

/-- SHIFT_END (R134). -/
def orderShiftEnd (s : State) : Answer :=
  let s1 := s.shiftClose
  let m := shiftSummaryOf s s1
  ⟨{ s1 with
      lq.lastSummary := some m
      lq.counters := Counters.zero
      lq.shiftTimer := .started
      lq.shiftNo := nextShiftNumber s1.lq.shiftNo },
    .ok, m.bytes⟩

/-! ### Meanings -/

/-- LOAD_DURATION_TICK (R101). -/
def execLoadDurationTick (s : State) : Out := live s State.loadSecond

/-- READ_OPEN_LOAD. -/
def execReadOpenLoad (p : Port) (s : State) : Out := live s (State.takeOrder p orderReadOpenLoad)

/-- SET_TARGET. -/
def execSetTarget (p : Port) (fields : TargetWire) (s : State) : Out :=
  live s (State.takeOrder p (orderSetTarget p fields))

/-- SET_NEXT. -/
def execSetNext (p : Port) (noneFlag : Byte) (fields : TargetWire) (s : State) : Out :=
  live s (State.takeOrder p (orderSetNext p noneFlag fields))

/-- CLOSE_LOAD. -/
def execCloseLoad (p : Port) (s : State) : Out := live s (State.takeOrder p orderCloseLoad)

/-- READ_MATERIAL. -/
def execReadMaterial (p : Port) (index : Byte) (s : State) : Out :=
  live s (State.takeOrder p (orderReadMaterial index))

/-- WRITE_MATERIAL. -/
def execWriteMaterial (p : Port) (fields : MaterialWire) (s : State) : Out :=
  live s (State.takeOrder p (orderWriteMaterial fields))

/-- SHIFT_END. -/
def execShiftEnd (p : Port) (s : State) : Out := live s (State.takeOrder p orderShiftEnd)

end Sys2Proof.Machine
end

