-- ==== Sys2Proof/Machine/Calibration.lean ====
section
/-! DEFINITION. The Calibration Unit (Chapter 5): what WE and CT hand to CU, the ways a calibration ends, and the calibration
orders. -/

namespace Sys2Proof.Machine

open Sys2Proof

/-- CU enters CAL_IDLE with the scratch table empty (R80). -/
def State.calIdle (s : State) : State :=
  { s with cu.cal := .idle, cu.scratchTare := none, cu.scratchLoaded := none, cu.scratchMref := none }

/-- A failure: its outcome, CAL_FAILED to both ports, the advisory CAL FAILED (R85, R87, R90, R91). -/
def State.calFail (o : CalOutcome) (s : State) : State :=
  ({ s with cu.outcome := some o }.raiseBoth .calFailed).queueAdvisory .calFailed

/-- A commit or an accepted zero: its outcome, CAL_DONE to both ports, the advisory CAL DONE (R88, R90). -/
def State.calDone (o : CalOutcome) (s : State) : State :=
  ({ s with cu.outcome := some o }.raiseBoth .calDone).queueAdvisory .calDone

/-- The outcome of a lift (R79). -/
def liftOutcome (l : Lift) (r : CalResult) (c : Option CalCause) (q : Nat) (m : WinMarks) : CalOutcome where
  lift := some l
  result := r
  cause := c
  q := some q
  marks := some m
  failBin := none
  m1 := none

/-- The outcome of an abandonment, not tied to a lift (R79). -/
def abandonOutcome (c : CalCause) : CalOutcome where
  lift := none
  result := .failed
  cause := some c
  q := none
  marks := none
  failBin := none
  m1 := none

/-- A running calibration is abandoned; in CAL_IDLE nothing changes (R91, R92, R93). -/
def State.abandonCal (c : CalCause) (s : State) : State :=
  if s.cu.cal = .idle then s else s.calIdle.calFail (abandonOutcome c)

/-- EX hands CU a loss of the hold (R92). -/
def State.holdLoss (s : State) : State := s.abandonCal .aborted

/-- WE hands CU a geometry change (R93). -/
def State.geometryChange (s : State) : State :=
  (if s.cu.table = .valid then { s with cu.table := .stale } else s).abandonCal .settings

/-- CT hands CU a WEIGHING entry (R83). -/
def CalState.enterWindow : CalState → CalState
  | .tareArmed => .tareLift
  | .loadedArmed => .loadedLift
  | .zeroArmed => .zeroLift
  | c => c

/-- CT hands CU a weigh abort (R84). -/
def CalState.abortWindow : CalState → CalState
  | .tareLift => .tareArmed
  | .loadedLift => .loadedArmed
  | .zeroLift => .zeroArmed
  | c => c

/-- The rounded mean force of each bin of the window (R85, R87). -/
def We.meanForces (w : We) : Eight Int := Eight.tabulate fun b => roundDiv (w.gross.get b) (w.counts.get b)

/-- A completed tare lift with `q` qualifying bins (R85). -/
def State.tareResult (q : Nat) (s : State) : State :=
  let m := s.we.marks
  if q < 8 then s.calIdle.calFail (liftOutcome .tare .failed (some .short) q m)
  else if m.any then
    { s with cu.cal := .tareArmed, cu.scratchTare := none }.calFail (liftOutcome .tare .failed (some .quality) q m)
  else
    { s with
      cu.cal := .loadedWait
      cu.scratchTare := some s.we.meanForces
      cu.outcome := some (liftOutcome .tare .stepDone none q m) }.queueAdvisory .calLiftLoad

/-- The commit of a loaded lift with forces `l` over the scratch tare `t` (R88). -/
def State.commitTable (t l : Eight Int) (q : Nat) (s : State) : State :=
  { s with
    cu.tare := t
    cu.loaded := l
    cu.mref := s.cu.scratchMref
    cu.table := .valid
    cu.origin := some .calibrated }.calIdle.calDone (liftOutcome .loaded .done none q s.we.marks)

/-- The first bin whose span is below 10,000 (R87). -/
def firstShortSpan (t l : Eight Int) : Option (Fin 8) := eightIndices.find? fun b => decide (l.get b - t.get b < minSpan)

/-- A completed loaded lift with `q` qualifying bins (R87). The scratch tare is present in LOADED_LIFT (log 16). -/
def State.loadedResult (q : Nat) (s : State) : State :=
  let m := s.we.marks
  if q < 8 then
    { s with cu.cal := .loadedWait, cu.scratchMref := none }.calFail (liftOutcome .loaded .failed (some .short) q m)
  else if m.any then
    { s with cu.cal := .loadedArmed }.calFail (liftOutcome .loaded .failed (some .quality) q m)
  else
    let t := s.cu.scratchTare.getD (Eight.fill 0)
    let l := s.we.meanForces
    match firstShortSpan t l with
    | some b =>
      { s with cu.cal := .loadedWait, cu.scratchLoaded := none, cu.scratchMref := none }.calFail
        { liftOutcome .loaded .failed (some .span) q m with failBin := some b.val }
    | none => s.commitTable t l q

/-- The measured M1 as the outcome records it (R79). -/
def recordedM1 (m1 : Int) : Int := clampInt (-2147483648) 2147483647 m1

/-- A completed zero lift that measured `m1` with `q` qualifying bins (R90). -/
def State.zeroResult (m1 : Int) (q : Nat) (s : State) : State :=
  let m := s.we.marks
  if inRange (-2000) 2000 m1 then
    ({ s with we.zt := m1 }.calIdle).calDone
      { liftOutcome .zero .done none q m with m1 := some (recordedM1 m1) }
  else
    s.calIdle.calFail { liftOutcome .zero .failed (some .zero) q m with m1 := some (recordedM1 m1) }

/-! ### Orders -/

/-- The hold check of the orders that need the hold (R81): HELD, NOT_HOLDER, or passed. -/
def State.holdRefusal (p : Port) (s : State) : Option ResultCode :=
  match s.ex.hold with
  | none => some .notHolder
  | some h => if h = p then none else some .held

/-- CAL_TARE (R81, R82). -/
def orderCalTare (p : Port) (s : State) : Answer :=
  match s.holdRefusal p with
  | some r => Answer.refuse s r
  | none =>
    if s.cu.cal ≠ .idle ∧ s.cu.cal ≠ .loadedWait then Answer.refuse s .state
    else if s.lt.held.isSome then Answer.refuse s .heldPass
    else Answer.done ({ s.calIdle with cu.cal := .tareArmed }.queueAdvisory .calLiftEmpty)

/-- CAL_LOADED (R81, R86). -/
def orderCalLoaded (p : Port) (mref : BitVec 16) (s : State) : Answer :=
  match s.holdRefusal p with
  | some r => Answer.refuse s r
  | none =>
    if !natInRange 100 60000 mref.toNat then Answer.badParam s 0
    else if s.cu.cal ≠ .loadedWait then Answer.refuse s .state
    else Answer.done { s with cu.cal := .loadedArmed, cu.scratchMref := some mref.toNat }

/-- The hold passes to port `p` and its idle timer starts from zero (R155). -/
def State.giveHold (p : Port) (s : State) : State := { s with ex.hold := some p, ex.holdTimer := .started }

/-- CAL_ZERO (R81, R89). -/
def orderCalZero (p : Port) (s : State) : Answer :=
  if s.heldByOther p then Answer.refuse s .held
  else if s.cu.cal ≠ .idle ∨ s.cu.table ≠ .valid then Answer.refuse s .state
  else if s.lt.held.isSome then Answer.refuse s .heldPass
  else
    let s1 := if s.ex.hold.isNone then s.giveHold p else s
    Answer.done ({ s1 with cu.cal := .zeroArmed }.queueAdvisory .calLiftEmpty)

/-- CAL_ABORT (R81, R91). -/
def orderCalAbort (p : Port) (s : State) : Answer :=
  match s.holdRefusal p with
  | some r => Answer.refuse s r
  | none => Answer.done (s.abandonCal .aborted)

/-- READ_TABLE (R95). -/
def orderReadTable (s : State) : Answer := Answer.read s s.tableRecord

/-- WRITE_TABLE (R81, R94). -/
def orderWriteTable (p : Port) (w : TableWire) (s : State) : Answer :=
  match s.holdRefusal p with
  | some r => Answer.refuse s r
  | none =>
    match tableFirstBad w with
    | some i => Answer.badParam s i
    | none =>
      if s.cu.cal ≠ .idle then Answer.refuse s .state
      else
        Answer.done { s with
          cu.mref := some w.mref.toNat
          cu.tare := Eight.tabulate fun b => (w.tare.get b).toInt
          cu.loaded := Eight.tabulate fun b => (w.loaded.get b).toInt
          cu.table := .valid
          cu.origin := some .written }

/-! ### Meanings -/

/-- CAL_TARE. -/
def execCalTare (p : Port) (s : State) : Out := live s (State.takeOrder p (orderCalTare p))

/-- CAL_LOADED. -/
def execCalLoaded (p : Port) (mref : BitVec 16) (s : State) : Out :=
  live s (State.takeOrder p (orderCalLoaded p mref))

/-- CAL_ZERO. -/
def execCalZero (p : Port) (s : State) : Out := live s (State.takeOrder p (orderCalZero p))

/-- CAL_ABORT. -/
def execCalAbort (p : Port) (s : State) : Out := live s (State.takeOrder p (orderCalAbort p))

/-- READ_TABLE. -/
def execReadTable (p : Port) (s : State) : Out := live s (State.takeOrder p orderReadTable)

/-- WRITE_TABLE. -/
def execWriteTable (p : Port) (record : TableWire) (s : State) : Out :=
  live s (State.takeOrder p (orderWriteTable p record))

end Sys2Proof.Machine
end

