-- ==== Sys2Proof/Machine/Weighing.lean ====
section
/-! DEFINITION. The Weigh Engine (Chapter 4): the force filter, the weigh window and its bins, the pass mass, completion, and the
application of WEIGH records. -/

namespace Sys2Proof.Machine

open Sys2Proof

/-! ### One sample as SP hands it on -/

/-- An accepted sample (R11). -/
structure Sample where
  theta : Int
  phi : Int
  psi : Int
  fRaw : Option Int
  marks : SampleMarks
  deriving DecidableEq, Repr

/-! ### The force filter (4.2) -/

/-- The most values the filter history holds (R52). -/
def historyCapacity : Nat := 8

/-- The force count (Table 4-1), which is the length of the history (R52, R53). -/
def We.forceCount (w : We) : Nat := w.history.length

/-- The filter history with a new value; a full history first loses its oldest (R52). -/
def pushHistory (h : List Int) (f : Int) : List Int :=
  (if h.length < historyCapacity then h else h.tail) ++ [f]

/-- The rounded mean of the newest `k` values, `k` the smaller of FILTER and the force count (R52). -/
def filteredForce (filter : Nat) (h : List Int) : Int :=
  let k := min filter h.length
  roundDiv (h.drop (h.length - k)).sum k

/-- The filter takes a sample's force under FILTER value `filter`; an absent force leaves it as it was (R52). -/
def We.filterForce (filter : Nat) (f : Option Int) (w : We) : We :=
  match f with
  | none => w
  | some x =>
    let h := pushHistory w.history x
    { w with history := h, latestF := some (filteredForce filter h) }

/-- The filter history is emptied (R53). -/
def We.emptyHistory (w : We) : We := { w with history := [] }

/-! ### The weigh window (4.3 to 4.5) -/

/-- WE opens a window (R54). -/
def We.openWindow (w : We) : We :=
  { w with
    windowOpen := true, gross := Eight.fill 0, counts := Eight.fill 0, samples := 0, pitchSum := 0, marks := WinMarks.none }

/-- WE closes the window and discards its sums (R71). -/
def We.discardWindow (w : We) : We :=
  { w with
    windowOpen := false, gross := Eight.fill 0, counts := Eight.fill 0, samples := 0, pitchSum := 0, marks := WinMarks.none }

/-- The bin of an angle within θSTART..θEND (R56). -/
def WeighRec.bin (r : WeighRec) (theta : Int) : Option (Fin 8) :=
  if r.thetaStart ≤ theta ∧ theta < r.thetaEnd then
    let b := ((theta - r.thetaStart) * 8 / (r.thetaEnd - r.thetaStart)).toNat
    if h : b < 8 then some ⟨b, h⟩ else none
  else none

/-- The most samples a bin counts (R58). -/
def binCapacity : Nat := 255

/-- A window sample with force `f` in bin `b` is accumulated, unless the bin is full (R57, R58). -/
def We.accumulate (b : Fin 8) (f : Int) (w : We) : We :=
  if w.counts.get b < binCapacity then
    { w with gross := w.gross.set b (w.gross.get b + f), counts := w.counts.set b (w.counts.get b + 1) }
  else w

/-- The pitch of a window sample is added and the sample counted (R59). -/
def We.addPitch (psi : Int) (w : We) : We :=
  if w.samples < top16 then { w with samples := w.samples + 1, pitchSum := w.pitchSum + psi } else w

/-- Step 4 of a window sample: its force, if it has one, goes to its bin, if it has one (R55). -/
def We.binSample (x : Sample) (w : We) : We :=
  match x.fRaw, w.latestF, w.weigh.bin x.theta with
  | some _, some f, some b => w.accumulate b f
  | _, _, _ => w

/-- A window sample, already filtered (R55 steps 2 to 4). -/
def We.windowSample (x : Sample) (w : We) : We :=
  (({ w with marks := w.marks.take w.weigh.pitchLimit x.psi x.marks x.fRaw.isSome }).addPitch x.psi).binSample x

/-- WE takes an accepted sample after CT has judged it; `filter` is FILTER as the sample found it (R52, R55). -/
def State.weighSample (filter : Nat) (x : Sample) (s : State) : State :=
  let w := s.we.filterForce filter x.fRaw
  { s with we := if s.ct.tracker = .weighing then w.windowSample x else w }

/-! ### The pass mass (4.7) -/

/-- The qualifying bins (R61). -/
def We.qualifying (w : We) : List (Fin 8) := eightIndices.filter fun b => decide (w.weigh.minS ≤ w.counts.get b)

/-- The bin mass of bin `b` against the table (R62, R63). -/
def binMass (c : Cu) (w : We) (b : Fin 8) : Int :=
  let n : Int := w.counts.get b
  roundDiv ((w.gross.get b - n * c.tare.get b) * (c.mref.getD 0 : Nat)) (n * (c.loaded.get b - c.tare.get b))

/-- The mean bin mass M0 (R64). -/
def meanBinMass (c : Cu) (w : We) : Int :=
  roundDiv (w.qualifying.map (binMass c w)).sum w.qualifying.length

/-- The mean pitch of the window (R65). -/
def We.meanPitch (w : We) : Int := roundDiv w.pitchSum w.samples

/-- The mass after the pitch correction, M1 (R65). -/
def correctedMass (c : Cu) (w : We) : Int :=
  let psi := clampInt (-w.weigh.pitchLimit) w.weigh.pitchLimit w.meanPitch
  roundDiv (meanBinMass c w * (100000 + w.weigh.kp * psi)) 100000

/-- The mass after the zero trim, M2 (R66). -/
def trimmedMass (c : Cu) (w : We) : Int := correctedMass c w - w.zt

/-- The pass mass Mp (R66). -/
def passMass (c : Cu) (w : We) : Int := clampInt (-5000) 65000 (trimmedMass c w)

/-- The weighed pass of a completed window (R62 to R69). -/
def weighedPass (c : Cu) (w : We) : Pass :=
  let calibrated : Bool := c.table == .valid
  { mass := if calibrated then some (passMass c w) else none
    flags :=
      { PassFlags.none with
        gapped := w.marks.gapped
        clipped := w.marks.clipped
        slope := w.marks.slope
        short := decide (w.qualifying.length < w.weigh.minB)
        range := calibrated && passMass c w != trimmedMass c w
        uncal := !calibrated }
    binsUsed := w.qualifying.length
    meanPitch := w.meanPitch
    reweighs := 0 }

/-! ### Aborts and completion (4.6, 4.8) -/

/-- The causes whose abort queues WEIGH ABORTED (R40). -/
def AbortCause.advised : AbortCause → Bool
  | .lowered => true
  | .timeout => true
  | .noData => true
  | _ => false

/-- A weigh abort, apart from the tracker's transition and the trace (R40, R71, R84, R130). -/
def State.abortWeigh (cause : AbortCause) (s : State) : State :=
  let s1 : State := { s with
    ct.windowTimer := .stopped
    ct.highTheta := none
    ct.belowStart := false
    ct.abortCause := some cause
    we := s.we.discardWindow
    cu.cal := s.cu.cal.abortWindow }
  let s2 := (s1.raiseBoth .weighAbort).countAbort
  if cause.advised then s2.queueAdvisory .weighAborted else s2

/-- CT hands WE the completion of a window (R61, R70). -/
def State.completeWindow (s : State) : State :=
  let q := s.we.qualifying.length
  if q = 0 then s.abortWeigh .noData
  else
    let s1 : State := { s with we.windowOpen := false }
    match s.cu.cal with
    | .idle => s1.acceptPass (weighedPass s.cu s.we)
    | .tareLift => s1.tareResult q
    | .loadedLift => s1.loadedResult q
    | .zeroLift => s1.zeroResult (correctedMass s.cu s.we) q
    | _ => { s with we := s.we.discardWindow }

/-! ### WEIGH records (4.10) -/

/-- The geometry fields of two WEIGH records are equal (R75). -/
def WeighRec.sameGeometry (r t : WeighRec) : Bool :=
  r.nCyl == t.nCyl && r.aHead == t.aHead && r.aRod == t.aRod && r.thetaStart == t.thetaStart && r.thetaEnd == t.thetaEnd

/-- A WEIGH record becomes the active record (R75). -/
def State.applyWeigh (r : WeighRec) (s : State) : State :=
  let s1 : State := { s with we.weigh := r, we.pendingWeigh := none }
  if s.we.weigh.sameGeometry r then s1 else s1.geometryChange

/-- The pending WEIGH record, if there is one, is applied (R49, R76). -/
def State.applyPendingWeigh (s : State) : State :=
  match s.we.pendingWeigh with
  | none => s
  | some r => s.applyWeigh r

end Sys2Proof.Machine
end

