-- ==== Sys2Proof/Machine/Tracker.lean ====
section
/-! DEFINITION. The Cycle Tracker (Chapter 3): the judgement of a sample, the timers' expiries, parking, sample loss, the dump
switch, and dump entry. -/

namespace Sys2Proof.Machine

open Sys2Proof

/-- The tracker enters state `t`, nothing else. -/
def State.enter (t : Tracker) (s : State) : State := { s with ct.tracker := t }

/-- A cycle state (Table 3-1). -/
def Tracker.inCycle : Tracker → Bool
  | .stopped => false
  | .sensorWait => false
  | .parked => false
  | _ => true

/-- The window timer and the dwell timer stop and the below-start memory is cleared (R31 to R34). -/
def Ct.standDown (c : Ct) : Ct :=
  { c with windowTimer := .stopped, dwellTimer := .stopped, belowStart := false }

/-- A weigh in progress is aborted by an event that is no sample: the trace ends at that event (R15, R40). -/
def State.abortIfWeighing (cause : AbortCause) (s : State) : State :=
  if s.ct.tracker = .weighing then (s.abortWeigh cause).endTrace else s

/-! ### LOW entry and WEIGHING entry -/

/-- The pending CYCLE record, if there is one, is applied (R49). -/
def State.applyPendingCycle (s : State) : State :=
  match s.ct.pendingCycle with
  | none => s
  | some r => { s with ct.cycle := r, ct.pendingCycle := none }

/-- LOW entry (R49). -/
def State.lowEntry (s : State) : State :=
  ({ s with ct.tracker := .low, ct.belowStart := false, ct.dwellTimer := .stopped }).applyPendingCycle.applyPendingWeigh

/-- WEIGHING entry by a sample at `theta` (R39, R54, R83). -/
def State.weighingEntry (theta : Int) (s : State) : State :=
  { s with
    ct.tracker := .weighing
    ct.belowStart := false
    ct.highTheta := some theta
    ct.windowTimer := .started
    we := s.we.openWindow
    cu.cal := s.cu.cal.enterWindow }

/-! ### The dump condition (3.6) -/

/-- The DUMP_SWITCH says that the bucket is tipped: its level is active while it is configured (R44). -/
def Ct.switchTipped (c : Ct) : Bool := c.dumpConfigured && c.dumpSwitch

/-- The dump condition (R44). -/
def Ct.dumpCondition (c : Ct) (theta phi : Int) : Bool :=
  decide (c.cycle.thetaDump ≤ theta) && (decide (phi ≤ c.cycle.phiDump) || c.switchTipped)

/-- The dwell timer follows an evaluation of the dump condition (R44). -/
def Ct.followDump (c : Ct) (holds : Bool) : Ct :=
  { c with dwellTimer := if holds then (if c.dwellTimer = .stopped then .started else c.dwellTimer) else .stopped }

/-- The bucket has come back, or the boom has left the dumping height (R47). -/
def Ct.dumpOver (c : Ct) (theta phi : Int) : Bool :=
  (decide (c.cycle.phiDump + c.cycle.hyst ≤ phi) && !c.switchTipped)
    || decide (theta < c.cycle.thetaDump - c.cycle.hyst)

/-! ### How a sample moves the tracker (R36) -/

/-- θSTART − HYST, below which the boom counts as low again. -/
def State.lowAgain (s : State) : Int := s.we.weigh.thetaStart - s.ct.cycle.hyst

/-- A sample in a waiting state that takes up the boom again (R35). -/
def State.takeUpBoom (theta : Int) (s : State) : State :=
  if theta < s.lowAgain then s.lowEntry else { s with ct.tracker := .raised, ct.belowStart := false }

/-- A sample in LIFTING (R38). At θ exactly θLOW − HYST it stays in LIFTING, as step 1 of R38 and Table 3-5 say ("below"); the
closing sentence of R38 says "or below". DESIGN CHOICE between the two (log 28). -/
def State.judgeLifting (theta : Int) (s : State) : State :=
  if theta < s.ct.cycle.thetaLow - s.ct.cycle.hyst then s.lowEntry
  else if s.we.weigh.thetaStart ≤ theta ∧ s.ct.belowStart then s.weighingEntry theta
  else if theta < s.we.weigh.thetaStart then { s with ct.belowStart := true }
  else s

/-- The highest window angle with a sample's angle taken in (R42). -/
def raiseHigh (high : Option Int) (theta : Int) : Int :=
  match high with
  | none => theta
  | some h => max h theta

/-- A sample in WEIGHING (R41, R42). -/
def State.judgeWeighing (theta : Int) (s : State) : State :=
  if s.we.weigh.thetaEnd ≤ theta then
    ({ s with ct.tracker := .raised, ct.windowTimer := .stopped, ct.highTheta := none }).completeWindow
  else if theta < raiseHigh s.ct.highTheta theta - s.ct.cycle.hyst then
    let s1 := (s.abortWeigh .lowered).enter .lifting
    { s1 with ct.belowStart := decide (theta < s.we.weigh.thetaStart) }
  else { s with ct.highTheta := some (raiseHigh s.ct.highTheta theta) }

/-- A sample in RAISED or RETURNING (R44, R45, R48). -/
def State.judgeCarried (theta phi : Int) (s : State) : State :=
  if theta < s.lowAgain then s.lowEntry
  else { s with ct := s.ct.followDump (s.ct.dumpCondition theta phi) }

/-- A sample, or a change of the dump switch, in DUMPING (R47). -/
def State.judgeDumping (theta phi : Int) (s : State) : State :=
  if s.ct.dumpOver theta phi then s.enter .returning else s

/-- An accepted sample in LOW (R37): LIFTING entry sets the below-start memory and empties the filter history (R53). -/
def State.judgeLow (theta : Int) (s : State) : State :=
  if s.ct.cycle.thetaLow ≤ theta then
    { s with ct.tracker := .lifting, ct.belowStart := true, we := s.we.emptyHistory }
  else s

/-- An accepted sample is judged once, against the tracker state in which it arrives (R36). -/
def State.judgeSample (theta phi : Int) (s : State) : State :=
  match s.ct.tracker with
  | .stopped => s
  | .sensorWait => s.takeUpBoom theta
  | .parked => if s.ct.park then s else s.takeUpBoom theta
  | .low => s.judgeLow theta
  | .lifting => s.judgeLifting theta
  | .weighing => s.judgeWeighing theta
  | .raised => s.judgeCarried theta phi
  | .returning => s.judgeCarried theta phi
  | .dumping => s.judgeDumping theta phi

/-! ### Levels handed by LM -/

/-- A change of the PARK level (R33). -/
def State.parkChange (level : Bool) (s : State) : State :=
  let s1 : State := { s with ct.park := level }
  if level ∧ (s.ct.tracker.inCycle ∨ s.ct.tracker = .sensorWait) then
    let s2 := s1.abortIfWeighing .park
    { s2 with ct := { s2.ct.standDown with tracker := .parked } }
  else s1

/-- A change of the DUMP_SWITCH level or configured status, judged with the angles of the latest accepted sample (R44, R47,
R48). Before any accepted sample the condition fails (log 16). -/
def State.dumpSwitchChange (level configured : Bool) (s : State) : State :=
  let s1 : State := { s with ct.dumpSwitch := level, ct.dumpConfigured := configured }
  match s1.sp.liveTheta, s1.sp.livePhi with
  | some theta, some phi =>
    match s1.ct.tracker with
    | .raised => { s1 with ct := s1.ct.followDump (s1.ct.dumpCondition theta phi) }
    | .returning => { s1 with ct := s1.ct.followDump (s1.ct.dumpCondition theta phi) }
    | .dumping => s1.judgeDumping theta phi
    | _ => s1
  | _, _ => s1

/-! ### Sample loss, RUN and STOP at CT -/

/-- SP hands CT a sample loss (R34). -/
def State.trackerLoss (s : State) : State :=
  if s.ct.tracker.inCycle then
    let s1 := s.abortIfWeighing .sensorLost
    { s1 with ct := { s1.ct.standDown with tracker := .sensorWait, highTheta := none } }
  else s

/-- RUN at CT (R31). -/
def State.trackerRun (s : State) : State :=
  if s.ct.tracker = .stopped then
    { s with ct :=
      { s.ct.standDown with
        tracker := if s.ct.park then .parked else .sensorWait
        highTheta := none, latestCycle := none, cycleRef := .started } }
  else s

/-- STOP at CT (R32). -/
def State.trackerStop (s : State) : State :=
  if s.ct.tracker = .stopped then s
  else
    let s1 := s.abortIfWeighing .stopped
    { s1 with ct := { s1.ct.standDown with tracker := .stopped, cycleRef := .stopped } }

/-! ### Expiries -/

/-- Ticks in 0.1 s. -/
def tenthTicks : Nat := 10

/-- The period of the window timer in ticks (R43). -/
def State.windowPeriod (s : State) : Nat := s.we.weigh.wtMax * tenthTicks

/-- The window timer expires (R43). -/
def State.windowTimeout (s : State) : State :=
  if s.ct.windowTimer.due s.windowPeriod ∧ s.ct.tracker = .weighing then
    (s.abortIfWeighing .timeout).enter .lifting
  else s

/-- The period of the dwell timer in ticks (R44). -/
def State.dwellPeriod (s : State) : Nat := s.ct.cycle.dumpDwell / 10

/-- The cycle time in 0.1 s: the time on the cycle reference, in whole tenths (R46). -/
def Ct.cycleTime (c : Ct) : Nat := min top16 (c.cycleRef.ticks / tenthTicks)

/-- Dump entry, from RAISED (R46). The cycle reference restarts on the tick boundary of the expiry (log 4). -/
def State.dumpEntry (s : State) : State :=
  let t := s.ct.cycleTime
  let s1 : State := { s with ct.tracker := .dumping, ct.dwellTimer := .stopped, ct.cycleRef := .counting 0 }
  if s.cu.cal = .idle then ({ s1 with ct.latestCycle := some t }.countCycle t).credit else s1

/-- The dwell timer expires: dump entry from RAISED, a shake from RETURNING (R44, R46, R48). -/
def State.dwellExpiry (s : State) : State :=
  if s.ct.dwellTimer.due s.dwellPeriod then
    match s.ct.tracker with
    | .raised => s.dumpEntry
    | .returning => { s with ct.tracker := .dumping, ct.dwellTimer := .stopped }
    | _ => s
  else s

/-! ### Meanings -/

/-- WINDOW_TIMER_EXPIRY (R43). -/
def execWindowTimerExpiry (s : State) : Out := live s State.windowTimeout

/-- DWELL_TIMER_EXPIRY (R44). -/
def execDwellTimerExpiry (s : State) : Out := live s State.dwellExpiry

end Sys2Proof.Machine
end

