-- ==== Sys2Proof/Machine/Sampling.lean ====
section
/-! DEFINITION. The Sample Port (Chapter 1): frames, checks, held angles, the sensor fault status, the raw force, handing on,
sample loss, the pacer, and the Sample Trace Buffer. -/

namespace Sys2Proof.Machine

open Sys2Proof

/-! ### The sample set (Table 1-2) -/

/-- A received sample set as its twelve bytes spell it. -/
structure SampleSet where
  seq : Byte
  faults : Byte
  ph : Nat
  pr : Nat
  theta : Int
  phi : Int
  psi : Int
  deriving DecidableEq, Repr

/-- The sample set of a frame's bits: exactly 12 whole bytes, else a frame error (R3). -/
def sampleSetOf (bits : List Bool) : Option SampleSet :=
  match bytesOfBits bits with
  | none => none
  | some bs =>
    if bs.length = 12 then
      some
        { seq := byteAt bs 0
          faults := byteAt bs 1
          ph := (word16At bs 2).toNat
          pr := (word16At bs 4).toNat
          theta := (word16At bs 6).toInt
          phi := (word16At bs 8).toInt
          psi := (word16At bs 10).toInt }
    else none

/-- The highest pressure accepted without clamping (Table 1-2). -/
def pressureTop : Nat := 45000

/-- A pressure clamped, absent when its channel is faulted (R5, R6). -/
def clampPressure (faulted : Bool) (v : Nat) : Option Nat := if faulted then none else some (min pressureTop v)

/-- An angle clamped, absent when its channel is faulted (R5). -/
def clampAngle (faulted : Bool) (lo hi v : Int) : Option Int := if faulted then none else some (clampInt lo hi v)

/-- The channels of a sample set after clamping; a faulted channel is absent (R5, R6). -/
structure Channels where
  ph : Option Nat
  pr : Option Nat
  theta : Option Int
  phi : Option Int
  psi : Option Int
  deriving DecidableEq, Repr

/-- R5: fault flag bits 0 to 4 are Ph, Pr, θ, φ and ψ. -/
def SampleSet.channels (x : SampleSet) : Channels where
  ph := clampPressure (x.faults.getLsbD 0) x.ph
  pr := clampPressure (x.faults.getLsbD 1) x.pr
  theta := clampAngle (x.faults.getLsbD 2) (-600) 700 x.theta
  phi := clampAngle (x.faults.getLsbD 3) (-900) 900 x.phi
  psi := clampAngle (x.faults.getLsbD 4) (-350) 350 x.psi

/-- A clear channel was changed by clamping. -/
def changedBy {α : Type} [DecidableEq α] (c : Option α) (v : α) : Bool :=
  match c with
  | none => false
  | some x => x != v

/-- The CLIPPED mark (R5). -/
def SampleSet.clipped (x : SampleSet) : Bool :=
  let c := x.channels
  changedBy c.ph x.ph || changedBy c.pr x.pr || changedBy c.theta x.theta || changedBy c.phi x.phi || changedBy c.psi x.psi

/-- One or more of the five fault flags is set (R9). -/
def SampleSet.anyFault (x : SampleSet) : Bool := x.faults &&& 0x1F != 0

/-- The raw lift force (R10, R6). -/
def rawForce (w : WeighRec) (c : Channels) : Option Int :=
  match c.ph, c.pr with
  | some ph, some pr => some (w.nCyl * ((ph : Int) * w.aHead - (pr : Int) * w.aRod))
  | _, _ => none

/-! ### Handling of a received sample set, rule by rule -/

/-- The set follows a gap (R4). -/
def Sp.gapBefore (p : Sp) (seq : Byte) : Bool :=
  match p.seqExpect with
  | none => false
  | some e => e != seq

/-- Sequence check (R4). -/
def Sp.takeSeq (seq : Byte) (p : Sp) : Sp :=
  { p with
    gapCount := if p.gapBefore seq then satAdd top16 p.gapCount 1 else p.gapCount
    seqExpect := some (seq + 1) }

/-- The angle θ that the set uses, or none when it is not accepted (R7). -/
def Sp.usedTheta (p : Sp) (theta : Option Int) : Option Int :=
  match theta with
  | some t => some t
  | none => if satAdd 4 p.heldAngle 1 ≤ 3 then p.lastTheta else none

/-- The last good θ and the held-angle count after a set (R7). -/
def Sp.takeTheta (theta : Option Int) (p : Sp) : Sp :=
  match theta with
  | some t => { p with lastTheta := some t, heldAngle := 0 }
  | none => { p with heldAngle := satAdd 4 p.heldAngle 1 }

/-- The φ or ψ that the set uses: clamped, held, or 0 (R8). -/
def usedAngle (last now : Option Int) : Int :=
  match now with
  | some a => a
  | none => last.getD 0

/-- The last good φ and ψ after a set (R8). -/
def Sp.takeTiltPitch (phi psi : Option Int) (p : Sp) : Sp :=
  { p with lastPhi := phi.or p.lastPhi, lastPsi := psi.or p.lastPsi }

/-- The clean-run count that clears the sensor fault status (R9). -/
def cleanRunNeeded : Nat := 10

/-- The sensor fault status after a received set (R9). -/
def State.judgeFaults (anyFault : Bool) (s : State) : State :=
  if anyFault then
    let s1 : State := { s with sp.sensorFault := true, sp.cleanRun := 0 }
    if s.sp.sensorFault then s1 else s1.raiseBoth .sensorFault
  else if s.sp.sensorFault then
    let n := satAdd cleanRunNeeded s.sp.cleanRun 1
    { s with sp.cleanRun := n, sp.sensorFault := decide (n < cleanRunNeeded) }
  else { s with sp.cleanRun := 0 }

/-! ### The Sample Trace Buffer (1.6) -/

/-- The most entries the trace holds (1.6.1). -/
def traceCapacity : Nat := 128

/-- An append that raises the list from 63 to 64 entries raises TRACE_HALF to the owner's port (R16). -/
def State.announceHalf (before : Nat) (s : State) : State :=
  match s.sp.trace.owner with
  | some p => if before = 63 ∧ s.sp.trace.entries.length = 64 then s.raise p .traceHalf else s
  | none => s

/-- An entry is appended; a full list first loses its oldest (R14). In LIFT mode the list is never full here (R15). -/
def State.appendTrace (e : TraceEntry) (s : State) : State :=
  let t := s.sp.trace
  if t.entries.length < traceCapacity then
    ({ s with sp.trace.entries := t.entries ++ [e] }).announceHalf t.entries.length
  else
    { s with sp.trace.entries := t.entries.tail ++ [e], sp.trace.drops := satAdd 255 t.drops 1 }

/-- The phase of a recording after an append: DONE when the set ended the window or filled the list (R15). -/
def phaseAfter (windowEnded : Bool) (length : Nat) : TracePhase :=
  if windowEnded || decide (traceCapacity ≤ length) then .done else .recording

/-- A received set is recorded once CT and WE are done with it (R14, R15). `before` is the tracker state before the set. -/
def State.recordSet (before : Tracker) (e : TraceEntry) (s : State) : State :=
  match s.sp.trace.mode with
  | .off => s
  | .ring => s.appendTrace e
  | .lift .waiting =>
    if e.tracker = .lifting ∧ before ≠ .lifting then
      let s1 := s.appendTrace e
      { s1 with sp.trace.mode := .lift (phaseAfter false s1.sp.trace.entries.length) }
    else s
  | .lift .recording =>
    let s1 := s.appendTrace e
    let ended := decide (before = .weighing ∧ e.tracker ≠ .weighing)
    { s1 with sp.trace.mode := .lift (phaseAfter ended s1.sp.trace.entries.length) }
  | .lift .done => s

/-! ### A frame -/

/-- An accepted sample is handed on: to CT, then to WE (R11). It restarts the sample-loss timer (R12). A WEIGH record that its LOW
entry applies is in force from the sample after it, so that the write and the sample give the same in both orders (R74, R75);
this sample's own force is filtered with the FILTER it found. DEDUCED against the words of R52, which name the active record
after CT has judged the sample (log 26). -/
def State.handOn (x : Sample) (s : State) : State :=
  let s1 : State := { s with
    sp.lossTimer := .started, sp.liveTheta := some x.theta, sp.livePhi := some x.phi, sp.livePsi := some x.psi }
  (s1.judgeSample x.theta x.phi).weighSample s.we.weigh.filter x

/-- The marks of a received set: CLIPPED (R5), HELD (R7, R8), GAP (R4). -/
def State.marksOf (x : SampleSet) (s : State) : SampleMarks where
  clipped := x.clipped
  held := (x.channels.theta.isNone && (s.sp.usedTheta x.channels.theta).isSome) || x.channels.phi.isNone
    || x.channels.psi.isNone
  gap := s.sp.gapBefore x.seq

/-- A received set's sample at the angle `theta`, as SP hands it on (R11). -/
def State.sampleOf (x : SampleSet) (theta : Int) (s : State) : Sample where
  theta := theta
  phi := usedAngle s.sp.lastPhi x.channels.phi
  psi := usedAngle s.sp.lastPsi x.channels.psi
  fRaw := rawForce s.we.weigh x.channels
  marks := s.marksOf x

/-- A received set's trace entry, `after` being the tracker state after it (1.6.1). -/
def State.entryOf (x : SampleSet) (after : Tracker) (s : State) : TraceEntry where
  seq := x.seq
  faults := x.faults
  ph := x.channels.ph
  pr := x.channels.pr
  theta := s.sp.usedTheta x.channels.theta
  phi := usedAngle s.sp.lastPhi x.channels.phi
  psi := usedAngle s.sp.lastPsi x.channels.psi
  marks := s.marksOf x
  fRaw := rawForce s.we.weigh x.channels
  tracker := after

/-- What SP keeps of a received set: sequence, last good angles and the sensor fault status (R4, R7 to R9). -/
def State.noteSet (x : SampleSet) (s : State) : State :=
  ({ s with
      sp := ((s.sp.takeSeq x.seq).takeTheta x.channels.theta).takeTiltPitch x.channels.phi x.channels.psi }).judgeFaults
    x.anyFault

/-- A received set is noted, and handed on if it is accepted (R7, R11). -/
def State.passOn (x : SampleSet) (s : State) : State :=
  match s.sp.usedTheta x.channels.theta with
  | some theta => (s.noteSet x).handOn (s.sampleOf x theta)
  | none => s.noteSet x

/-- A received sample set is handled by R4 to R11, in that order, and recorded. -/
def State.receiveSet (x : SampleSet) (s : State) : State :=
  let t := s.passOn x
  t.recordSet s.ct.tracker (s.entryOf x t.ct.tracker)

/-- The rising edge of SFRM that ends a frame: disregarded while sampling is STOPPED (R1), else a sample set or a frame
error (R3). -/
def State.receiveFrame (bits : List Bool) (s : State) : State :=
  match s.sp.sampling with
  | .stopped => s
  | .running =>
    match sampleSetOf bits with
    | none => { s with sp.frameErrors := satAdd top16 s.sp.frameErrors 1 }
    | some x => s.receiveSet x

/-! ### Sample loss (R12) -/

/-- The sample-loss timer in ticks: 250 ms. -/
def lossPeriod : Nat := 25

/-- Expiry of the sample-loss timer (R12). -/
def State.sampleLoss (s : State) : State :=
  if s.sp.lossTimer.due lossPeriod then
    (({ s with
        sp.lossTimer := .stopped, sp.seqExpect := none, sp.lastTheta := none, sp.lastPhi := none, sp.lastPsi := none
        sp.heldAngle := 0, sp.sensorFault := true, sp.cleanRun := 0 }).raiseBoth .sensorFault).trackerLoss
  else s

/-! ### The pacer (R2) -/

/-- The pacing period in ticks; 5 ms at 200 is less than one (log 11). -/
def PaceRate.periodTicks : PaceRate → Nat
  | .off => 0
  | .hz50 => 2
  | .hz100 => 1
  | .hz200 => 0

/-- One pulse on PACE, and a new pacing period counted by `t` (R2). -/
def Sp.pulse (t : Timer) (p : Sp) : Sp := { p with pace := true, pacePulses := p.pacePulses + 1, pacer := t }

/-- A fresh pacing period begins with a pulse; with PACE_RATE OFF, PACE stays low (R2). -/
def Sp.startPacing (p : Sp) : Sp :=
  if p.paceRate = .off then { p with pace := false, pacer := .stopped } else p.pulse .started

/-- A pacing period has run out (R2). -/
def Sp.pulseDue (p : Sp) : Bool :=
  match p.paceRate with
  | .off => false
  | .hz200 => p.pacer != .stopped
  | r => p.pacer.due r.periodTicks

/-- The start of a pacing period (R2). -/
def State.pacePulse (s : State) : State :=
  if s.sp.sampling = .running ∧ s.sp.pulseDue then { s with sp := s.sp.pulse (.counting 0) } else s

/-! ### RUN and STOP (R1) -/

/-- RUN at SP and WE (R1, R53). -/
def State.samplingRun (s : State) : State :=
  match s.sp.sampling with
  | .running => s
  | .stopped =>
    { s with
      sp := { s.sp with
        sampling := .running, seqExpect := none, lastTheta := none, lastPhi := none, lastPsi := none, heldAngle := 0
        sensorFault := false, cleanRun := 0, lossTimer := .started }.startPacing
      we := { s.we.emptyHistory with latestF := none } }

/-- STOP at SP (R1). -/
def State.samplingStop (s : State) : State :=
  match s.sp.sampling with
  | .stopped => s
  | .running =>
    { s with sp.sampling := .stopped, sp.pacer := .stopped, sp.pace := false, sp.lossTimer := .stopped }

/-- RUN (R1, R31). -/
def orderRun (s : State) : Answer := Answer.done s.samplingRun.trackerRun

/-- STOP (R1, R32). -/
def orderStop (s : State) : Answer := Answer.done s.trackerStop.samplingStop

/-! ### TRACE_ARM and TRACE_READ -/

/-- The trace is armed by port `p`: list emptied, drops 0 (R13). -/
def Trace.arm (p : Port) (m : TraceMode) : Trace where
  entries := []
  owner := some p
  mode := m
  drops := 0

/-- The modes that TRACE_ARM names (R13). -/
def traceModeOf (c : Byte) : Option TraceMode :=
  match c.toNat with
  | 0 => some .off
  | 1 => some .ring
  | 2 => some (.lift .waiting)
  | _ => none

/-- TRACE_ARM (R13). -/
def orderTraceArm (p : Port) (mode : Byte) (s : State) : Answer :=
  match traceModeOf mode with
  | none => Answer.badParam s 0
  | some m =>
    let t := s.sp.trace
    if t.owner = some (other p) ∧ t.mode ≠ .off then Answer.refuse s .busy
    else if m = .off ∧ t.owner = some p then Answer.done { s with sp.trace.mode := .off }
    else Answer.done { s with sp.trace := Trace.arm p m }

/-- TRACE_READ (R16). -/
def orderTraceRead (p : Port) (n : Byte) (s : State) : Answer :=
  if !natInRange 1 8 n.toNat then Answer.badParam s 0
  else if s.sp.trace.owner ≠ some p then Answer.refuse s .state
  else
    let es := s.sp.trace.entries.take n.toNat
    let reply := traceBytes es s.sp.trace
    if es.isEmpty then ⟨s, .empty, reply⟩
    else ⟨{ s with sp.trace.entries := s.sp.trace.entries.drop n.toNat }, .ok, reply⟩

/-! ### Meanings -/

/-- RECEIVED_SAMPLE_SET (R3). -/
def execReceivedSampleSet (bits : List Bool) (s : State) : Out := live s (State.receiveFrame bits)

/-- PACE_PULSE (R2). -/
def execPacePulse (s : State) : Out := live s State.pacePulse

/-- SAMPLE_LOSS (R12). -/
def execSampleLoss (s : State) : Out := live s State.sampleLoss

/-- RUN. -/
def execRun (p : Port) (s : State) : Out := live s (State.takeOrder p orderRun)

/-- STOP. -/
def execStop (p : Port) (s : State) : Out := live s (State.takeOrder p orderStop)

/-- TRACE_ARM. -/
def execTraceArm (p : Port) (mode : Byte) (s : State) : Out := live s (State.takeOrder p (orderTraceArm p mode))

/-- TRACE_READ. -/
def execTraceRead (p : Port) (n : Byte) (s : State) : Out := live s (State.takeOrder p (orderTraceRead p n))

end Sys2Proof.Machine
end

