-- ==== Sys2Proof/Machine/Lines.lean ====
section
/-! DEFINITION. The Line Monitor (Chapter 2): the 10 ms tick with its line samples, line updates, edges, function events, level
functions and watches; the slot on display and its acknowledgement (R147, R163), which an ACK_MSG event needs. -/

namespace Sys2Proof.Machine

open Sys2Proof

/-! ### Levels -/

/-- The active levels (R20): a line of INVERTED polarity is active while its debounced level is low. -/
def Lm.active (m : Lm) : BitVec 8 := m.debounced ^^^ m.settings.inverted

/-- The line set of a function (R21). -/
def LinesRec.lineSet (r : LinesRec) (f : LineFn) : BitVec 8 := levelsOf fun k => r.funcs.get k == f

/-- The level functions that follow from the function table and the active levels (R22). -/
def Lm.computedLevels (m : Lm) : FnLevels where
  park := m.settings.lineSet .park &&& m.active != 0
  dumpSwitch := m.settings.lineSet .dumpSwitch &&& m.active != 0
  lights := m.settings.lineSet .lights &&& m.active != 0
  dumpConfigured := m.settings.lineSet .dumpSwitch != 0

/-- LM keeps the level functions, and hands each one that changed to its receiver as one event (R22). -/
def State.handLevels (s : State) : State :=
  let old := s.lm.levels
  let now := s.lm.computedLevels
  let s1 : State := { s with lm.levels := now }
  let s2 := if now.park = old.park then s1 else s1.parkChange now.park
  let s3 :=
    if now.dumpSwitch = old.dumpSwitch ∧ now.dumpConfigured = old.dumpConfigured then s2
    else s2.dumpSwitchChange now.dumpSwitch now.dumpConfigured
  if now.lights = old.lights then s3 else { s3 with sd.lights := now.lights }

/-! ### The slot on display -/

/-- A message that qualifies for the strip: SHOW set and ACKED clear (R146). -/
def Message.qualifies (m : Message) : Bool := m.showFlag && !m.acked

/-- The slot of sender `p` qualifies for the message line (R146). -/
def Ex.slotQualifies (x : Ex) (p : Port) : Bool :=
  match x.slots.get p with
  | none => false
  | some m => m.qualifies

/-- The qualifying slot stored earlier, by its sender (R146). -/
def Ex.shownSlot (x : Ex) : Option Port := x.storeOrder.find? fun p => x.slotQualifies p

/-- The slot on display: layer 3 would show it and layers 1 and 2 are inactive (R147). -/
def State.onDisplay (s : State) : Option Port :=
  if s.sd.advisories.isEmpty ∧ s.sp.sensorFault = false then s.ex.shownSlot else none

/-- The message of a sender's slot is acknowledged. -/
def Ex.acknowledge (p : Port) (x : Ex) : Ex :=
  match x.slots.get p with
  | none => x
  | some m => { x with slots := x.slots.set p (some { m with acked := true }) }

/-- An ACK_MSG event (R163). -/
def State.ackMessage (s : State) : State :=
  match s.onDisplay with
  | none => s
  | some p => { s with ex := s.ex.acknowledge p }.raise p .msgAcked

/-! ### Function events (R23) -/

/-- The edge functions (Table 2-2). -/
inductive LineEvent where
  | tipOff
  | undo
  | nextTruck
  | discard
  | ackMsg
  deriving DecidableEq, Repr

/-- The event of a line function at an active edge; level functions and NONE have none (Table 2-2). -/
def LineFn.event : LineFn → Option LineEvent
  | .unused => none
  | .park => none
  | .dumpSwitch => none
  | .lights => none
  | .tipOff => some .tipOff
  | .undo => some .undo
  | .nextTruck => some .nextTruck
  | .discard => some .discard
  | .ackMsg => some .ackMsg

/-- A function event taken by its receiver (Table 2-2). -/
def State.takeEvent (e : LineEvent) (s : State) : State :=
  match e with
  | .tipOff => s.tipOff
  | .undo => s.undoPass
  | .nextTruck => s.nextTruckEvent
  | .discard => s.discardPass
  | .ackMsg => s.ackMessage

/-- The function events raised by active edges on the lines of `edges`, in line order (R23). -/
def LinesRec.eventsOf (r : LinesRec) (edges : BitVec 8) : List LineEvent :=
  eightIndices.filterMap fun k => if edges.getLsbD k.val then (r.funcs.get k).event else none

/-- Several events of one line update are taken one after the other, and either may be taken first (R23): while two or more wait,
the free value `Config.pickEvent` says which is next (log 7). -/
def State.takeEvents (fuel : Nat) (es : List LineEvent) (s : State) : State :=
  match fuel, es with
  | 0, _ => s
  | _, [] => s
  | _, [e] => s.takeEvent e
  | n + 1, e :: f :: rest =>
    let i := Config.pickEvent s.choices % (rest.length + 2)
    let all := e :: f :: rest
    State.takeEvents n (all.eraseIdx i) (({ s with choices := s.choices + 1 }).takeEvent (all.getD i e))

/-! ### Watches (2.6) -/

/-- The watch is in match with these active levels (R27). -/
def Watch.inMatch (w : Watch) (active : BitVec 8) : Bool := (active ^^^ w.compare) &&& w.mask == 0

/-- An evaluation of a watch raises an event (R27). -/
def Watch.fires (w : Watch) (before after : BitVec 8) : Bool :=
  match w.mode with
  | .off => false
  | .matching m => !m && w.inMatch after
  | .change => (before ^^^ after) &&& w.mask != 0

/-- The match state after an evaluation (R27). -/
def Watch.modeAfter (w : Watch) (after : BitVec 8) : WatchMode :=
  match w.mode with
  | .off => .off
  | .matching _ => .matching (w.inMatch after)
  | .change => .change

/-- A watch after an evaluation, with the capture and count of an event (R27, R28). -/
def Watch.evaluate (before after : BitVec 8) (w : Watch) : Watch :=
  if w.fires before after then
    { w with mode := w.modeAfter after, capture := some after, count := satAdd 255 w.count 1 }
  else { w with mode := w.modeAfter after }

/-- The watch of port `p` is evaluated (R27, R28). -/
def State.evaluateWatch (before after : BitVec 8) (p : Port) (s : State) : State :=
  let w := s.lm.watch.get p
  let s1 : State := { s with lm.watch := s.lm.watch.set p (w.evaluate before after) }
  if w.fires before after then s1.raise p .lineWatch else s1

/-- Both watches are evaluated. -/
def State.evaluateWatches (before after : BitVec 8) (s : State) : State :=
  (s.evaluateWatch before after .a).evaluateWatch before after .b

/-! ### The tick and the line update (R18, R19) -/

/-- The ticks a line's raw level must differ for (R18). -/
def LinesRec.limit (r : LinesRec) (k : Fin 8) : Nat := r.debounce.get k / 10

/-- The most a difference count holds (Table 2-1). -/
def diffTop : Nat := 25

/-- The difference count of line `k` at a tick that samples `raw` (R18). -/
def Lm.diffAfter (m : Lm) (raw : BitVec 8) (k : Fin 8) : Nat :=
  if raw.getLsbD k.val = m.debounced.getLsbD k.val then 0 else satAdd diffTop (m.diff.get k) 1

/-- The lines whose debounced level takes the raw level (R18, R25). The limit is that of the LINES settings at the moment of the
update: a DESIGN CHOICE where a LINES write comes between the tick and its update (log 27). -/
def Lm.changing (m : Lm) : BitVec 8 :=
  levelsOf fun k =>
    (m.raw.getLsbD k.val != m.debounced.getLsbD k.val) && decide (m.settings.limit k ≤ m.diff.get k)

/-- LM samples the eight lines (R18). The line update that this makes due is a command of its own (log 6). -/
def Lm.sample (raw : BitVec 8) (m : Lm) : Lm :=
  let m1 := { m with raw := raw, diff := Eight.tabulate (m.diffAfter raw) }
  { m1 with updateDue := m1.changing != 0 }

/-- The first tick after device reset (R19). -/
def Lm.firstSample (raw : BitVec 8) (m : Lm) : Lm :=
  { m with raw := raw, debounced := raw, diff := Eight.fill 0, firstTick := true, updateDue := false }

/-- The hold's idle timer in ticks: 20 s (R157). -/
def holdPeriod : Nat := 2000

/-- The blink timer in ticks: 250 ms (R144). -/
def blinkPeriod : Nat := 25

/-- Every running timer meets a tick boundary (00 0.4.3); the 1 ms pulse on PACE has ended (log 11). -/
def State.tickTimers (s : State) : State :=
  { s with
    sp.lossTimer := s.sp.lossTimer.tick lossPeriod
    sp.pacer := s.sp.pacer.tick s.sp.paceRate.periodTicks
    sp.pace := false
    ct.windowTimer := s.ct.windowTimer.tick s.windowPeriod
    ct.dwellTimer := s.ct.dwellTimer.tick s.dwellPeriod
    ct.cycleRef := s.ct.cycleRef.tick (top16 * tenthTicks)
    lt.durationTimer := s.lt.durationTimer.tick secondTicks
    lq.shiftTimer := s.lq.shiftTimer.tick secondTicks
    sd.refreshTimer := s.sd.refreshTimer.tick (s.sd.refreshPeriod / 10)
    sd.blinkTimer := s.sd.blinkTimer.tick blinkPeriod
    sd.holdTimer := s.sd.holdTimer.tick (s.sd.holdTime * tenthTicks)
    ex.holdTimer := s.ex.holdTimer.tick holdPeriod }

/-- The 10 ms tick (R18, R19, 00 0.4.3). -/
def State.lineTick (raw : BitVec 8) (s : State) : State :=
  let s1 := s.tickTimers
  if s1.lm.firstTick then { s1 with lm := s1.lm.sample raw }
  else ({ s1 with lm := s1.lm.firstSample raw }).handLevels

/-- The debounced levels that have reached their limit take the raw levels (R18). -/
def Lm.update (m : Lm) : Lm :=
  let c := m.changing
  { m with
    debounced := m.debounced ^^^ c
    diff := Eight.tabulate fun k => if c.getLsbD k.val then 0 else m.diff.get k
    updateDue := false }

/-- A line update: levels, function events and watches follow from the changes together (R18, R22, R23, R27). After a LINES write
that was taken first it is judged whole under the new record, debounce times included, as R25 says of it; a line that was due
may then not turn, although R25 also lets the new time apply from the next tick and promises the same levels in both orders.
DESIGN CHOICE among these (log 27). -/
def State.lineUpdate (s : State) : State :=
  if s.lm.updateDue ∧ s.lm.changing ≠ 0 then
    let before := s.lm.active
    let s1 : State := { s with lm := s.lm.update }
    let after := s1.lm.active
    let events := s1.lm.settings.eventsOf (after &&& ~~~before)
    ((s1.handLevels).takeEvents events.length events).evaluateWatches before after
  else { s with lm.updateDue := false }

/-! ### Orders -/

/-- The match state as an optional field, present in MATCH mode (R26, R29). -/
def matchField : WatchMode → List Byte
  | .matching m => [1, bit8 m]
  | _ => [0, 0]

/-- LINE_STATE (R29). -/
def orderLineState (p : Port) (s : State) : Answer :=
  let w := s.lm.watch.get p
  ⟨{ s with lm.watch := s.lm.watch.set p { w with count := 0 } }, .ok,
    [s.lm.raw, s.lm.debounced, s.lm.active, s.lm.levels.code, w.mode.code, w.mask, w.compare] ++ matchField w.mode
      ++ optField 1 (fun c => [c]) w.capture ++ u8 w.count⟩

/-- The watch modes that SET_WATCH names; in MATCH mode the match state is evaluated from the levels as they stand (R26). -/
def watchModeOf (c : Byte) (inMatch : Bool) : Option WatchMode :=
  match c.toNat with
  | 0 => some .off
  | 1 => some (.matching inMatch)
  | 2 => some .change
  | _ => none

/-- SET_WATCH (R26). -/
def orderSetWatch (p : Port) (mask compare mode : Byte) (s : State) : Answer :=
  let w : Watch := { mode := .off, mask := mask, compare := compare, capture := none, count := 0 }
  match watchModeOf mode (w.inMatch s.lm.active) with
  | none => Answer.badParam s 2
  | some m =>
    ⟨{ s with lm.watch := s.lm.watch.set p { w with mode := m } }, .ok, [s.lm.active] ++ matchField m⟩

/-! ### Meanings -/

/-- LINE_SAMPLE_TICK (R18). -/
def execLineSampleTick (levels : BitVec 8) (s : State) : Out := live s (State.lineTick levels)

/-- LINE_UPDATE (R18). -/
def execLineUpdate (s : State) : Out := live s State.lineUpdate

/-- LINE_STATE. -/
def execLineState (p : Port) (s : State) : Out := live s (State.takeOrder p (orderLineState p))

/-- SET_WATCH. -/
def execSetWatch (p : Port) (mask compare mode : Byte) (s : State) : Out :=
  live s (State.takeOrder p (orderSetWatch p mask compare mode))

end Sys2Proof.Machine
end

