-- ==== Sys2Proof/Machine/Strip.lean ====
section
/-! DEFINITION. The Strip Driver (Chapter 8): the panel image and the strip frame, refresh, blink, advisories, the port text
windows, and the strip orders. -/

namespace Sys2Proof.Machine

open Sys2Proof

/-! ### Numeric fields (8.3) -/

/-- A mass in a six-character field (R139, R118). -/
def massField (kg : Int) : List Byte :=
  let v := clampInt (-9999) 99999 (roundDiv kg 100)
  let n := v.natAbs
  padLeft 6 ((if v < 0 then [0x2D] else []) ++ decimal 5 (n / 10) ++ [0x2E, BitVec.ofNat 8 (0x30 + n % 10)])

/-- A blank field (R139). -/
def blankField : List Byte := List.replicate 6 space

/-- A pass mass, absent shown as dashes (R139). -/
def passField : Option Int → List Byte
  | some m => massField m
  | none => ascii [' ', ' ', '-', '-', '-', '-']

/-- The mass and flags of the pass that F1 shows: the held pass, else the newest entry of the open load (R140). -/
def State.shownPass (s : State) : Option (Option Int × PassFlags) :=
  match s.lt.held with
  | some x => some (x.mass, x.flags)
  | none => (s.lt.load.passes.getLast?).map fun e => (e.mass, e.flags)

/-- Field F1, the pass (R140). -/
def State.fieldF1 (s : State) : List Byte :=
  match s.shownPass with
  | some (m, _) => passField m
  | none => blankField

/-- Field F2, the total (R140). -/
def State.fieldF2 (s : State) : List Byte := massField s.lt.load.total

/-- Field F3, the remaining mass (R140). -/
def State.fieldF3 (s : State) : List Byte :=
  match s.remaining with
  | some r => massField r
  | none => blankField

/-- The pass count (R140). -/
def State.passCountField (s : State) : List Byte := padLeft 2 (decimal 2 s.lt.load.passes.length)

/-! ### Bargraph (8.4) -/

/-- The fill of the pass shown, absent when it is UNCAL or there is none (R116, R141). -/
def State.shownFill (s : State) : Option Nat :=
  match s.shownPass with
  | some (m, f) => if f.uncal then none else some (fillPercent (creditedMass m) s.capacity)
  | none => none

/-- The most bargraph segments (8.1). -/
def segments : Nat := 40

/-- The target mark is shown: LOAD_PROGRESS with a target present (R141). -/
def State.markShown (s : State) : Bool := s.lt.settings.barMode == .loadProgress && s.lt.load.target.isSome

/-- The number of lit segments (R141). -/
def State.litSegments (s : State) : Nat :=
  match s.lt.settings.barMode, s.lt.load.target with
  | .loadProgress, some t => min segments (s.lt.load.total * 30 / t)
  | _, _ =>
    match s.shownFill with
    | some f => min segments (f * 20 / 100)
    | none => 0

/-- Eight bits as a byte, the first bit most significant. -/
def byteMsbFirst (bs : List Bool) : Byte := BitVec.ofNat 8 (bitsToNat bs)

/-- The five bargraph bytes: logical segments 1 to N lit, reversed under MIRROR (R141, R142). -/
def State.barBytes (s : State) : List Byte :=
  let n := s.litSegments
  let lit := (List.range segments).map fun i => decide (i < n)
  let pos := if s.sd.settings.mirror then lit.reverse else lit
  (List.range 5).map fun k => byteMsbFirst ((pos.drop (8 * k)).take 8)

/-! ### Lamps, blink and dim (8.5) -/

/-- The eight lamps in logical order (Table 8-4). -/
def State.lamps (s : State) : List Bool :=
  [ s.lt.load.state == .target,
    s.lt.load.state == .over && s.sd.blink,
    (match s.lt.held with | some x => x.flags.tipped | none => false),
    s.cu.cal != .idle,
    s.sp.sensorFault,
    s.ex.slotQualifies .a || s.ex.slotQualifies .b,
    s.cu.table != .valid || (match s.shownPass with | some (_, f) => f.uncal | none => false),
    s.ct.tracker == .parked ]

/-- The lamp byte, reversed under MIRROR (R143). -/
def State.lampByte (s : State) : Byte :=
  byteMsbFirst (if s.sd.settings.mirror then s.lamps.reverse else s.lamps)

/-- The strip is dim (R145). -/
def Sd.isDim (d : Sd) : Bool :=
  match d.dim with
  | .on => true
  | .off => false
  | .auto => d.lights

/-- The header byte (Table 8-3). -/
def State.headerByte (s : State) : Byte :=
  byteMsbFirst [s.sd.isDim, s.sd.blink, s.markShown, s.sd.settings.mirror, false, false, false, false]

/-! ### The message line (8.6) -/

/-- The text of an advisory (Table 8-6). -/
def Advisory.text : Advisory → List Byte
  | .targetReached => ascii ['T', 'A', 'R', 'G', 'E', 'T', ' ', 'R', 'E', 'A', 'C', 'H', 'E', 'D']
  | .overload => ascii ['O', 'V', 'E', 'R', 'L', 'O', 'A', 'D']
  | .reWeigh => ascii ['R', 'E', '-', 'W', 'E', 'I', 'G', 'H']
  | .weighAborted => ascii ['W', 'E', 'I', 'G', 'H', ' ', 'A', 'B', 'O', 'R', 'T', 'E', 'D']
  | .loadClosed n => ascii ['L', 'O', 'A', 'D', ' '] ++ fiveDigits n ++ ascii [' ', 'C', 'L', 'O', 'S', 'E', 'D']
  | .calLiftEmpty => ascii ['C', 'A', 'L', ' ', 'L', 'I', 'F', 'T', ' ', 'E', 'M', 'P', 'T', 'Y']
  | .calLiftLoad => ascii ['C', 'A', 'L', ' ', 'L', 'I', 'F', 'T', ' ', 'L', 'O', 'A', 'D']
  | .calDone => ascii ['C', 'A', 'L', ' ', 'D', 'O', 'N', 'E']
  | .calFailed => ascii ['C', 'A', 'L', ' ', 'F', 'A', 'I', 'L', 'E', 'D']

/-- Layer 2's text (Table 8-5). -/
def sensorFaultText : List Byte := ascii ['S', 'E', 'N', 'S', 'O', 'R', ' ', 'F', 'A', 'U', 'L', 'T']

/-- Layer 4's text for an advice of `n` percent (R146). -/
def lastPassText (n : Nat) : List Byte :=
  ascii ['L', 'A', 'S', 'T', ' ', 'P', 'A', 'S', 'S', ' '] ++ decimal 3 n ++ ascii ['%']

/-- Row 0 with a text, row 1 blank. -/
def oneRow (t : List Byte) : List Byte := padRight 20 t ++ List.replicate 20 space

/-- The 40 characters of the message line, from the highest active layer (R146). -/
def State.messageLine (s : State) : List Byte :=
  match s.sd.advisories with
  | x :: _ => oneRow x.text
  | [] =>
    if s.sp.sensorFault then oneRow sensorFaultText
    else
      match s.ex.shownSlot.bind fun p => s.ex.slots.get p with
      | some m => padRight 40 (m.bytes.map stripChar)
      | none =>
        match s.advice with
        | some n => oneRow (lastPassText n)
        | none => textRow s.sd.text 0 ++ textRow s.sd.text 1

/-! ### Refresh and send (8.2) -/

/-- The 67 bytes of a strip frame (Table 8-3). -/
def State.stripFrame (s : State) : List Byte :=
  [s.headerByte] ++ s.barBytes ++ s.fieldF1 ++ s.fieldF2 ++ s.fieldF3 ++ s.passCountField ++ [s.lampByte] ++ s.messageLine

/-- Expiry of the refresh timer: the snapshot is composed and its send begins; the next period is that of the settings now
(R137, R138). -/
def State.refresh (s : State) : State :=
  if s.sd.refreshTimer.due (s.sd.refreshPeriod / 10) then
    { s with
      sd.snapshot := some s.stripFrame
      sd.sending := true
      sd.refreshTimer := .counting 0
      sd.refreshPeriod := s.sd.settings.refresh }
  else s

/-- The bits that the part puts on STDAT while FRAME is high, in the order they are sent: the snapshot's bytes in order, each most
significant bit first (R138). Their timing is left out (log 25). -/
def Sd.stdat (d : Sd) : List Bool :=
  if d.sending then (d.snapshot.getD []).flatMap fun b => (List.range 8).map fun k => b.getLsbD (7 - k) else []

/-- The last bit of a frame is sent: FRAME goes low, the send state is IDLE (R138). -/
def State.frameSent (s : State) : State := { s with sd.sending := false }

/-- Expiry of the blink timer (R144). -/
def State.blinkToggle (s : State) : State :=
  if s.sd.blinkTimer.due blinkPeriod then { s with sd.blink := !s.sd.blink, sd.blinkTimer := .counting 0 } else s

/-- Expiry of the advisory hold timer (R149). -/
def State.advisoryExpiry (s : State) : State :=
  if s.sd.holdTimer.due (s.sd.holdTime * tenthTicks) then
    match s.sd.advisories.tail with
    | [] => { s with sd.advisories := [], sd.holdTimer := .stopped }
    | rest =>
      { s with sd.advisories := rest, sd.holdTimer := .counting 0, sd.holdTime := s.sd.settings.advisoryHold }
  else s

/-! ### Windows (8.8) -/

/-- A window after its counter has advanced (R152). -/
def Window.advance (w : Window) : Window :=
  match w.direction with
  | .rowFirst =>
    if w.col < w.ce then { w with col := w.col + 1 }
    else { w with col := w.cs, row := if w.row < w.re then w.row + 1 else w.rs }
  | .columnFirst =>
    if w.row < w.re then { w with row := w.row + 1 }
    else { w with row := w.rs, col := if w.col < w.ce then w.col + 1 else w.cs }

/-- Characters written through a window, each at its counter, which then advances (R152, R150). -/
def writeChars (w : Window) (m : List Host.Cell) : List Byte → Window × List Host.Cell
  | [] => (w, m)
  | c :: rest => writeChars w.advance (textWrite m (textAddr w.col w.row) (stripChar c)) rest

/-- The counter of a window as a reply: column, row (Table 11-3). -/
def Window.counter (w : Window) : List Byte := u8 w.col ++ u8 w.row

/-- OPEN_WINDOW (R151). -/
def orderOpenWindow (p : Port) (f : WindowWire) (s : State) : Answer :=
  match windowFirstBad f with
  | some i => Answer.badParam s i
  | none =>
    let w := windowOfWire f
    ⟨{ s with sd.windows := s.sd.windows.set p (some w) }, .ok, w.counter⟩

/-- PUT_TEXT with its characters, at its last character (R152). -/
def orderPutText (p : Port) (chars : List Byte) (s : State) : Answer :=
  match s.sd.windows.get p with
  | none => Answer.refuse s .state
  | some w =>
    let r := writeChars w s.sd.text chars
    ⟨{ s with sd.windows := s.sd.windows.set p (some r.1), sd.text := r.2 }, .ok, r.1.counter⟩

/-- SET_STRIP (R145). -/
def orderSetStrip (override : Byte) (s : State) : Answer :=
  match dimOverrideOf override with
  | none => Answer.badParam s 0
  | some d =>
    let s1 : State := { s with sd.dim := d }
    ⟨s1, .ok, [d.code, bit8 s1.sd.isDim]⟩

/-! ### Meanings -/

/-- REFRESH_EXPIRY (R137). -/
def execRefreshExpiry (s : State) : Out := live s State.refresh

/-- STRIP_FRAME_SENT (R138). -/
def execStripFrameSent (s : State) : Out := live s State.frameSent

/-- BLINK_TOGGLE (R144). -/
def execBlinkToggle (s : State) : Out := live s State.blinkToggle

/-- ADVISORY_HOLD_EXPIRY (R149). -/
def execAdvisoryHoldExpiry (s : State) : Out := live s State.advisoryExpiry

/-- OPEN_WINDOW. -/
def execOpenWindow (p : Port) (fields : WindowWire) (s : State) : Out :=
  live s (State.takeOrder p (orderOpenWindow p fields))

/-- SET_STRIP. -/
def execSetStrip (p : Port) (override : Byte) (s : State) : Out :=
  live s (State.takeOrder p (orderSetStrip override))

end Sys2Proof.Machine
end

