-- ==== Sys2Proof/Machine/Settings.lean ====
section
/-! DEFINITION. The settings groups (R181): SAMPLE, WEIGH, CYCLE, LOAD, LINES and STRIP, read and written. -/

namespace Sys2Proof.Machine

open Sys2Proof

/-- The OK reply of READ_SETTINGS: a pending byte, then the active record (R181). -/
def settingsReply (pending : Bool) (record : List Byte) : List Byte := bit8 pending :: record

/-! ### Reads -/

/-- READ_SETTINGS(SAMPLE) (R2). -/
def orderReadSample (s : State) : Answer := Answer.read s (settingsReply false s.sp.paceRate.bytes)

/-- READ_SETTINGS(WEIGH) (R77). -/
def orderReadWeigh (s : State) : Answer :=
  Answer.read s (settingsReply s.we.pendingWeigh.isSome s.we.weigh.bytes)

/-- READ_SETTINGS(CYCLE) (R51). -/
def orderReadCycle (s : State) : Answer :=
  Answer.read s (settingsReply s.ct.pendingCycle.isSome s.ct.cycle.bytes)

/-- READ_SETTINGS(LOAD) (R119). -/
def orderReadLoad (s : State) : Answer := Answer.read s (settingsReply false s.lt.settings.bytes)

/-- READ_SETTINGS(LINES) (R24). -/
def orderReadLines (s : State) : Answer := Answer.read s (settingsReply false s.lm.settings.bytes)

/-- READ_SETTINGS(STRIP) (R153). -/
def orderReadStrip (s : State) : Answer := Answer.read s (settingsReply false s.sd.settings.bytes)

/-! ### Writes -/

/-- The tracker states in which a WEIGH or CYCLE record is applied at once (R50, R74). -/
def Tracker.appliesAtOnce : Tracker → Bool
  | .stopped => true
  | .sensorWait => true
  | .parked => true
  | .low => true
  | _ => false

/-- WRITE_SETTINGS(SAMPLE) (R2). -/
def orderWriteSample (rate : Byte) (s : State) : Answer :=
  match paceRateOf rate with
  | none => Answer.badParam s 0
  | some r =>
    let p : Sp := { s.sp with paceRate := r }
    Answer.done { s with sp := if s.sp.sampling = .running then p.startPacing else p }

/-- An accepted WEIGH record is placed by the tracker state (R74). -/
def State.placeWeigh (r : WeighRec) (s : State) : State :=
  if s.ct.tracker.appliesAtOnce then s.applyWeigh r else { s with we.pendingWeigh := some r }

/-- WRITE_SETTINGS(WEIGH) (R73). -/
def orderWriteWeigh (p : Port) (w : WeighWire) (s : State) : Answer :=
  if s.heldByOther p then Answer.refuse s .held
  else
    match weighFirstBad (weighOfWire w) (s.ct.cycle :: s.ct.pendingCycle.toList) with
    | some i => Answer.badParam s i
    | none => Answer.done (s.placeWeigh (weighOfWire w))

/-- An accepted CYCLE record is placed by the tracker state; applied at once, it brings a pending WEIGH record into force with
it (R50, R76). -/
def State.placeCycle (r : CycleRec) (s : State) : State :=
  if s.ct.tracker.appliesAtOnce then
    ({ s with ct.cycle := r, ct.pendingCycle := none }).applyPendingWeigh
  else { s with ct.pendingCycle := some r }

/-- WRITE_SETTINGS(CYCLE) (R50). -/
def orderWriteCycle (p : Port) (w : CycleWire) (s : State) : Answer :=
  if s.heldByOther p then Answer.refuse s .held
  else
    match cycleFirstBad (cycleOfWire w) (s.we.pendingWeigh.getD s.we.weigh) with
    | some i => Answer.badParam s i
    | none => Answer.done (s.placeCycle (cycleOfWire w))

/-- WRITE_SETTINGS(LOAD) (R119, R120). -/
def orderWriteLoad (w : LoadWire) (s : State) : Answer :=
  match loadFirstBad w with
  | some i => Answer.badParam s i
  | none => Answer.done ({ s with lt.settings := loadOfWire w }).recomputeLoad

/-- A LINES record takes effect: levels, level functions and watches follow, and no edge is raised (R25). -/
def State.applyLines (r : LinesRec) (s : State) : State :=
  let before := s.lm.active
  let s1 : State := { s with lm.settings := r }
  let after := s1.lm.active
  let s2 := s1.handLevels
  if before = after then s2 else s2.evaluateWatches before after

/-- WRITE_SETTINGS(LINES) (R24, R25). -/
def orderWriteLines (w : LinesWire) (s : State) : Answer :=
  match linesFirstBad w with
  | some i => Answer.badParam s i
  | none => Answer.done (s.applyLines (linesOfWire w))

/-- WRITE_SETTINGS(STRIP) (R153). -/
def orderWriteStrip (w : StripWire) (s : State) : Answer :=
  match stripFirstBad w with
  | some i => Answer.badParam s i
  | none => Answer.done { s with sd.settings := stripOfWire w }

/-! ### The group code (R181) -/

/-- A group code outside 0..5 refuses the order with the reply byte 0xFF (R181). -/
def badGroup : Nat := 0xFF

/-- READ_SETTINGS by its group code. -/
def orderReadSettings (group : Byte) (s : State) : Answer :=
  match group.toNat with
  | 0 => orderReadSample s
  | 1 => orderReadWeigh s
  | 2 => orderReadCycle s
  | 3 => orderReadLoad s
  | 4 => orderReadLines s
  | 5 => orderReadStrip s
  | _ => Answer.badParam s badGroup

/-- WRITE_SETTINGS by its group code and its record area, which begins at parameter byte 1. -/
def orderWriteSettings (p : Port) (ps : List Byte) (s : State) : Answer :=
  match (byteAt ps 0).toNat with
  | 0 => orderWriteSample (byteAt ps 1) s
  | 1 => orderWriteWeigh p (weighAt ps 1) s
  | 2 => orderWriteCycle p (cycleAt ps 1) s
  | 3 => orderWriteLoad (loadAt ps 1) s
  | 4 => orderWriteLines (linesAt ps 1) s
  | 5 => orderWriteStrip (stripAt ps 1) s
  | _ => Answer.badParam s badGroup

/-! ### Meanings -/

/-- READ_SETTINGS_SAMPLE. -/
def execReadSettingsSample (p : Port) (s : State) : Out := live s (State.takeOrder p orderReadSample)

/-- READ_SETTINGS_WEIGH. -/
def execReadSettingsWeigh (p : Port) (s : State) : Out := live s (State.takeOrder p orderReadWeigh)

/-- READ_SETTINGS_CYCLE. -/
def execReadSettingsCycle (p : Port) (s : State) : Out := live s (State.takeOrder p orderReadCycle)

/-- READ_SETTINGS_LOAD. -/
def execReadSettingsLoad (p : Port) (s : State) : Out := live s (State.takeOrder p orderReadLoad)

/-- READ_SETTINGS_LINES. -/
def execReadSettingsLines (p : Port) (s : State) : Out := live s (State.takeOrder p orderReadLines)

/-- READ_SETTINGS_STRIP. -/
def execReadSettingsStrip (p : Port) (s : State) : Out := live s (State.takeOrder p orderReadStrip)

/-- WRITE_SETTINGS_SAMPLE. -/
def execWriteSettingsSample (p : Port) (paceRate : Byte) (s : State) : Out :=
  live s (State.takeOrder p (orderWriteSample paceRate))

/-- WRITE_SETTINGS_WEIGH. -/
def execWriteSettingsWeigh (p : Port) (record : WeighWire) (s : State) : Out :=
  live s (State.takeOrder p (orderWriteWeigh p record))

/-- WRITE_SETTINGS_CYCLE. -/
def execWriteSettingsCycle (p : Port) (record : CycleWire) (s : State) : Out :=
  live s (State.takeOrder p (orderWriteCycle p record))

/-- WRITE_SETTINGS_LOAD. -/
def execWriteSettingsLoad (p : Port) (record : LoadWire) (s : State) : Out :=
  live s (State.takeOrder p (orderWriteLoad record))

/-- WRITE_SETTINGS_LINES. -/
def execWriteSettingsLines (p : Port) (record : LinesWire) (s : State) : Out :=
  live s (State.takeOrder p (orderWriteLines record))

/-- WRITE_SETTINGS_STRIP. -/
def execWriteSettingsStrip (p : Port) (record : StripWire) (s : State) : Out :=
  live s (State.takeOrder p (orderWriteStrip record))

end Sys2Proof.Machine
end

