-- ==== Sys2Proof/Machine/Exchange.lean ====
section
/-! DEFINITION. The Exchange (Chapter 9): the hold's orders and its lapse, reading a message, the notice orders. -/

namespace Sys2Proof.Machine

open Sys2Proof

/-! ### The hold -/

/-- The hold becomes FREE, its timer stops and the loss is handed to CU (R154, R156). -/
def State.loseHold (s : State) : State := { s with ex.hold := none, ex.holdTimer := .stopped }.holdLoss

/-- TAKE_HOLD (R155). -/
def orderTakeHold (p : Port) (s : State) : Answer :=
  match s.ex.hold with
  | none => ⟨s.giveHold p, .ok, [0]⟩
  | some h => if h = p then ⟨s.giveHold p, .ok, [1]⟩ else Answer.refuse s .held

/-- DROP_HOLD (R156). -/
def orderDropHold (p : Port) (s : State) : Answer :=
  if s.holds p then Answer.done s.loseHold else Answer.refuse s .notHolder

/-- Expiry of the idle timer: the hold lapses (R157). -/
def State.holdLapse (s : State) : State :=
  match s.ex.hold with
  | none => s
  | some p => if s.ex.holdTimer.due holdPeriod then (s.raise p .holdLapsed).loseHold else s

/-! ### Messages -/

/-- READ_MESSAGE reads the issuing port's inbound slot, that of the other sender (R162). -/
def orderReadMessage (p : Port) (s : State) : Answer :=
  match s.ex.slots.get (other p) with
  | none => Answer.refuse s .noMessage
  | some m =>
    ⟨({ s with
        ex.slots := s.ex.slots.set (other p) none
        ex.storeOrder := s.ex.storeOrder.filter fun q => q != other p }).raise (other p) .msgTaken,
      .ok, m.record⟩

/-! ### Notices -/

/-- The reply byte for no kind (Table 11-2). -/
def noKind : Byte := 0xFF

/-- The lowest priority number among a set of kinds (R167). -/
def topKind (set : BitVec 16) : Byte :=
  match (List.range 16).find? fun k => set.getLsbD k with
  | some k => BitVec.ofNat 8 k
  | none => noKind

/-- TOP_NOTICE (R167). -/
def orderTopNotice (p : Port) (s : State) : Answer :=
  Answer.read s [topKind (s.ex.pending.get p &&& s.ex.enable.get p)]

/-- READ_NOTICES (R166). -/
def orderReadNotices (p : Port) (s : State) : Answer :=
  Answer.read s
    (bytes16 (s.ex.pending.get p) ++ bytes16 (s.ex.enable.get p) ++ slotBytes s.ex.slots.a ++ slotBytes s.ex.slots.b
      ++ [portCode s.ex.hold])

/-- CLEAR_NOTICES (R165). -/
def orderClearNotices (p : Port) (mask : BitVec 16) (s : State) : Answer :=
  let left := s.ex.pending.get p &&& ~~~mask
  ⟨{ s with ex.pending := s.ex.pending.set p left }, .ok, bytes16 left⟩

/-- ENABLE_NOTICES (R166). -/
def orderEnableNotices (p : Port) (enables : BitVec 16) (s : State) : Answer :=
  let s1 : State := { s with ex.enable := s.ex.enable.set p enables }
  ⟨s1, .ok, bytes16 enables ++ [bit8 (s1.atn p)]⟩

/-! ### Meanings -/

/-- TAKE_HOLD. -/
def execTakeHold (p : Port) (s : State) : Out := live s (State.takeOrder p (orderTakeHold p))

/-- DROP_HOLD. -/
def execDropHold (p : Port) (s : State) : Out := live s (State.takeOrder p (orderDropHold p))

/-- HOLD_LAPSE (R157). -/
def execHoldLapse (s : State) : Out := live s State.holdLapse

/-- READ_MESSAGE. -/
def execReadMessage (p : Port) (s : State) : Out := live s (State.takeOrder p (orderReadMessage p))

/-- TOP_NOTICE. -/
def execTopNotice (p : Port) (s : State) : Out := live s (State.takeOrder p (orderTopNotice p))

/-- READ_NOTICES. -/
def execReadNotices (p : Port) (s : State) : Out := live s (State.takeOrder p (orderReadNotices p))

/-- CLEAR_NOTICES. -/
def execClearNotices (p : Port) (mask : BitVec 16) (s : State) : Out :=
  live s (State.takeOrder p (orderClearNotices p mask))

/-- ENABLE_NOTICES. -/
def execEnableNotices (p : Port) (enables : BitVec 16) (s : State) : Out :=
  live s (State.takeOrder p (orderEnableNotices p enables))

end Sys2Proof.Machine
end

