-- ==== Sys2Proof/Machine/Link.lean ====
section
/-! DEFINITION. The link ports (Chapter 10): units, frames, parameters, passing over, SEL edges, the reply and contention; the order
table (Table 11-3); the orders READ_LIVE, PORT_STATUS, LINK_RESET, DEPOSIT_MESSAGE and PUT_TEXT. -/

namespace Sys2Proof.Machine

open Sys2Proof

/-! ### Orders of the ports themselves -/

/-- READ_LIVE (R184). -/
def orderReadLive (s : State) : Answer := Answer.read s s.liveRecord

/-- PORT_STATUS: the last result as it stood before the order (R177). -/
def orderPortStatus (p : Port) (s : State) : Answer :=
  let q := s.ports.get p
  Answer.read s ([q.lastResult.code] ++ u8 q.strays ++ u8 q.contentions)

/-- Step 2 of LINK_RESET: the hold, if port `p` holds it, is released (R158). -/
def State.resetHold (p : Port) (s : State) : State := if s.holds p then s.loseHold else s

/-- Step 3 of LINK_RESET: the trace, if port `p` owns it, is cancelled (R17). -/
def State.resetTrace (p : Port) (s : State) : State :=
  if s.sp.trace.owner = some p then { s with sp.trace := Sp.reset.trace } else s

/-- Step 5 of LINK_RESET: the port's watch; mask and compare are kept (R30). -/
def State.resetWatch (p : Port) (s : State) : State :=
  { s with lm.watch := s.lm.watch.set p { s.lm.watch.get p with mode := .off, capture := none, count := 0 } }

/-- LINK_RESET, its steps in order (R178). The pending flags are cleared after the hold is released. -/
def orderLinkReset (p : Port) (s : State) : Answer :=
  let s1 := s.setPort p { s.ports.get p with order := none, ended := false }
  let s3 := (s1.resetHold p).resetTrace p
  let s4 : State := { s3 with sd.windows := s3.sd.windows.set p none }
  let s5 := s4.resetWatch p
  let s6 : State := { s5 with ex.pending := s5.ex.pending.set p 0 }
  Answer.done (s6.setPort p { s6.ports.get p with strays := 0, contentions := 0 })

/-- DEPOSIT_MESSAGE at its last byte (R160). -/
def orderDeposit (p : Port) (ps : List Byte) (s : State) : Answer :=
  let bytes := ps.drop 2
  ⟨s.storeMessage p { bytes := bytes, showFlag := showOf ps, truncated := false, acked := false }, .ok, u8 bytes.length⟩

/-! ### The order table (Table 11-3) -/

/-- The parameter units that an order code calls for: a fixed number, or by a length (R171). -/
inductive Calls where
  | fixed (n : Nat)
  | deposit
  | text
  deriving DecidableEq, Repr

/-- The parameters of each order code; `none` for a code not in the table. -/
def callsOf (code : Byte) : Option Calls :=
  match code.toNat with
  | 0x01 => some (.fixed 0)
  | 0x02 => some (.fixed 0)
  | 0x03 => some (.fixed 0)
  | 0x04 => some (.fixed 0)
  | 0x05 => some (.fixed 9)
  | 0x06 => some (.fixed 10)
  | 0x07 => some (.fixed 0)
  | 0x08 => some (.fixed 0)
  | 0x09 => some (.fixed 2)
  | 0x0A => some (.fixed 0)
  | 0x0B => some (.fixed 0)
  | 0x10 => some (.fixed 1)
  | 0x11 => some (.fixed 25)
  | 0x12 => some (.fixed 1)
  | 0x13 => some (.fixed 12)
  | 0x18 => some (.fixed 0)
  | 0x19 => some (.fixed 0)
  | 0x1A => some (.fixed 0)
  | 0x1B => some (.fixed 2)
  | 0x1C => some (.fixed 0)
  | 0x1D => some (.fixed 0)
  | 0x1E => some (.fixed 0)
  | 0x1F => some (.fixed 66)
  | 0x20 => some .deposit
  | 0x21 => some (.fixed 0)
  | 0x22 => some (.fixed 0)
  | 0x23 => some (.fixed 0)
  | 0x24 => some (.fixed 2)
  | 0x25 => some (.fixed 2)
  | 0x28 => some (.fixed 0)
  | 0x29 => some (.fixed 3)
  | 0x2A => some (.fixed 1)
  | 0x2B => some (.fixed 1)
  | 0x30 => some (.fixed 5)
  | 0x31 => some .text
  | 0x32 => some (.fixed 1)
  | 0x38 => some (.fixed 0)
  | 0x3F => some (.fixed 0)
  | _ => none

/-- What the order of a code does with its parameter bytes, on port `p` (Table 11-3). A code outside the table never gets
here: it is answered BAD_ORDER at its unit (R170). -/
def orderOf (p : Port) (code : Byte) (ps : List Byte) (s : State) : Answer :=
  match code.toNat with
  | 0x01 => orderRun s
  | 0x02 => orderStop s
  | 0x03 => orderReadLive s
  | 0x04 => orderReadOpenLoad s
  | 0x05 => orderSetTarget p (targetAt ps 0) s
  | 0x06 => orderSetNext p (byteAt ps 0) (targetAt ps 1) s
  | 0x07 => orderCloseLoad s
  | 0x08 => orderCollectLoad s
  | 0x09 => orderReleaseLoad (word16At ps 0) s
  | 0x0A => orderReadShift s
  | 0x0B => orderShiftEnd s
  | 0x10 => orderReadSettings (byteAt ps 0) s
  | 0x11 => orderWriteSettings p ps s
  | 0x12 => orderReadMaterial (byteAt ps 0) s
  | 0x13 => orderWriteMaterial (materialAt ps) s
  | 0x18 => orderTakeHold p s
  | 0x19 => orderDropHold p s
  | 0x1A => orderCalTare p s
  | 0x1B => orderCalLoaded p (word16At ps 0) s
  | 0x1C => orderCalZero p s
  | 0x1D => orderCalAbort p s
  | 0x1E => orderReadTable s
  | 0x1F => orderWriteTable p (tableAt ps) s
  | 0x20 => orderDeposit p ps s
  | 0x21 => orderReadMessage p s
  | 0x22 => orderTopNotice p s
  | 0x23 => orderReadNotices p s
  | 0x24 => orderClearNotices p (word16At ps 0) s
  | 0x25 => orderEnableNotices p (word16At ps 0) s
  | 0x28 => orderLineState p s
  | 0x29 => orderSetWatch p (byteAt ps 0) (byteAt ps 1) (byteAt ps 2) s
  | 0x2A => orderTraceArm p (byteAt ps 0) s
  | 0x2B => orderTraceRead p (byteAt ps 0) s
  | 0x30 => orderOpenWindow p (windowAt ps) s
  | 0x31 => orderPutText p (ps.drop 1) s
  | 0x32 => orderSetStrip (byteAt ps 0) s
  | 0x38 => orderPortStatus p s
  | 0x3F => orderLinkReset p s
  | _ => Answer.refuse s .badOrder

/-! ### Kind-0 units (R170, R174) -/

/-- A code not in the order table: BAD_ORDER with no reply, taken as an order (R170, R157). -/
def State.answerBadOrder (p : Port) (s : State) : State :=
  let t := s.restartHold p
  t.setPort p { t.ports.get p with frame := .expectOrder, shift := [], lastResult := .badOrder }

/-- An order that carries parameters begins: the frame enters PARAMS (R170). -/
def State.beginParams (p : Port) (code : Byte) (due : Option Nat) (s : State) : State :=
  s.setPort p { s.ports.get p with
    frame := .params, shift := [], order := some { code := code, params := [], due := due }, ended := false }

/-- An order is settled before its last parameter, the frame staying in PARAMS with order ended set; `due` units are still to be
passed over, or not yet known (R172). It counts as taken (R157). -/
def State.settle (p : Port) (o : Pending) (r : ResultCode) (reply : List Byte) (s : State) : State :=
  let t := s.restartHold p
  t.setPort p { t.ports.get p with
    frame := .params, shift := [], order := some o, ended := true
    reply := some ⟨r.code :: reply, 0⟩, lastResult := r }

/-- The order code of DEPOSIT_MESSAGE (Table 11-3). -/
def depositCode : Byte := 0x20

/-- The order code of PUT_TEXT (Table 11-3). -/
def textCode : Byte := 0x31

/-- A kind-0 unit begins an order, as in EXPECT_ORDER (R170); a deposit is settled at once while its outbound slot is FULL
(R160). -/
def State.beginOrder (p : Port) (code : Byte) (s : State) : State :=
  match callsOf code with
  | none => s.answerBadOrder p
  | some (.fixed 0) => s.take p (orderOf p code [])
  | some (.fixed n) => s.beginParams p code (some n)
  | some .text => s.beginParams p code none
  | some .deposit =>
    if (s.ex.slots.get p).isSome then s.settle p { code := code, params := [], due := none } .slotFull []
    else { s with ex.deposits := s.ex.deposits.set p (some 0) }.beginParams p code none

/-- A kind-0 unit completes on port `p` (R170, R174). In REPLY and PAUSED no unit completes (Table 10-3). -/
def State.kind0Unit (p : Port) (code : Byte) (s : State) : State :=
  match (s.ports.get p).frame with
  | .expectOrder => s.beginOrder p code
  | .params => (s.abandon p).beginOrder p code
  | .reply => s
  | .paused => s

/-! ### Kind-1 units (R170 to R172) -/

/-- A stray unit (R170). -/
def State.strayUnit (p : Port) (s : State) : State :=
  let q := s.ports.get p
  s.setPort p { q with shift := [], strays := satAdd 255 q.strays 1, lastResult := .stray }

/-- The count that a length unit stands for: 0 means 64 (R152, R160). -/
def lengthCount (b : Byte) : Nat := if b = 0 then 64 else b.toNat

/-- The parameter units that follow the length unit `b`: the characters, or the SHOW unit and the message bytes (R171). -/
def unitsAfterLength (code b : Byte) : Nat := if code = depositCode then lengthCount b + 1 else lengthCount b

/-- The current order and parameters of port `p` replaced, the frame staying in PARAMS. -/
def State.keepParams (p : Port) (o : Pending) (s : State) : State :=
  s.setPort p { s.ports.get p with shift := [], order := some o }

/-- A unit of an order already settled is counted and discarded; the first one of an order settled at its order unit is read as
the length; after the last one due the frame enters REPLY (R172). -/
def State.passOver (p : Port) (o : Pending) (b : Byte) (s : State) : State :=
  match o.due with
  | none => s.keepParams p { o with due := some (unitsAfterLength o.code b) }
  | some n =>
    if n ≤ 1 then
      s.setPort p { s.ports.get p with
        frame := .reply, shift := [], order := none, ended := false, contentionSeen := false }
    else s.keepParams p { o with due := some (n - 1) }

/-- The length unit of DEPOSIT_MESSAGE or PUT_TEXT: above 64 it settles the order with BAD_PARAM naming field 0, and still sets
the count (R152, R160, R172). -/
def State.lengthUnit (p : Port) (o : Pending) (b : Byte) (s : State) : State :=
  let o1 : Pending := { o with params := o.params ++ [b], due := some (unitsAfterLength o.code b) }
  if 64 < b.toNat then
    { s with ex.deposits := s.ex.deposits.set p none }.settle p o1 .badParam (u8 0)
  else s.keepParams p o1

/-- A deposit in progress counts its message bytes as they arrive (R160). -/
def State.countDeposit (p : Port) (o : Pending) (s : State) : State :=
  if o.code = depositCode then { s with ex.deposits := s.ex.deposits.set p (some (o.params.length - 2)) } else s

/-- A parameter unit of an order not yet taken; the last one due takes the order (R171). -/
def State.parameter (p : Port) (o : Pending) (b : Byte) (s : State) : State :=
  match o.due with
  | none => s.lengthUnit p o b
  | some n =>
    let o1 : Pending := { o with params := o.params ++ [b], due := some (n - 1) }
    if n ≤ 1 then s.take p (orderOf p o.code o1.params) else (s.countDeposit p o1).keepParams p o1

/-- A kind-1 unit completes on port `p` (R170 to R172). In REPLY and PAUSED no unit completes (Table 10-3). -/
def State.kind1Unit (p : Port) (b : Byte) (s : State) : State :=
  let q := s.ports.get p
  match q.frame with
  | .expectOrder => s.strayUnit p
  | .params =>
    match q.order with
    | none => s
    | some o => if q.ended then s.passOver p o b else s.parameter p o b
  | .reply => s
  | .paused => s

/-- Kind-1 units, one after another. -/
def State.kind1Units (p : Port) (bs : List Byte) (s : State) : State := bs.foldl (fun t b => t.kind1Unit p b) s

/-! ### The reply (R175, R176) -/

/-- The bit that the part presents on DAT, once the turnaround clock is past (R175). -/
def Lp.presented (q : Lp) : Option Bool :=
  match q.frame, q.reply with
  | .reply, some r => if r.pos = 0 then none else some (bitOfBytes r.bytes (r.pos - 1))
  | _, _ => none

/-- The part pulls DAT low: it presents a 0 and no contention has stopped it (R175, R176). -/
def Lp.drivesLow (q : Lp) : Bool := q.presented == some false && !q.contentionSeen

/-- A reply clock at which DAT, as others drive it, is `dat` meets contention (R176). -/
def Lp.contends (q : Lp) (dat : Bool) : Bool := q.presented == some true && !dat && !q.contentionSeen

/-- A port after one reply clock: past the last bit the frame enters EXPECT_ORDER (R175). -/
def Lp.clockReply (q : Lp) : Lp :=
  match q.reply with
  | none => q
  | some r =>
    if r.bytes.length * 8 ≤ r.pos then { q with frame := .expectOrder, shift := [], reply := none }
    else { q with reply := some { r with pos := r.pos + 1 } }

/-- A rising edge of CLK in REPLY (R175, R176). -/
def State.replyEdge (p : Port) (dat : Bool) (s : State) : State :=
  let q := s.ports.get p
  if q.contends dat then
    (s.setPort p { q.clockReply with contentionSeen := true, contentions := satAdd 255 q.contentions 1 }).raise p .linkError
  else s.setPort p q.clockReply

/-- The bits of a unit: the kind bit and the byte, most significant bit first (R169). -/
def unitBits : Nat := 9

/-- A unit is complete: its first bit is its kind (R169). -/
def State.completeUnit (p : Port) (bits : List Bool) (s : State) : State :=
  let b : Byte := BitVec.ofNat 8 (bitsToNat bits.tail)
  if bits.headD false then s.kind1Unit p b else s.kind0Unit p b

/-- A rising edge of CLK in EXPECT_ORDER or PARAMS samples DAT; the ninth completes a unit (R169). -/
def State.sampleBit (p : Port) (dat : Bool) (s : State) : State :=
  let q := s.ports.get p
  let bits := q.shift ++ [dat]
  if bits.length < unitBits then s.setPort p { q with shift := bits } else s.completeUnit p bits

/-- A rising edge of CLK with SEL low (R169, R175). -/
def State.clockEdge (p : Port) (dat : Bool) (s : State) : State :=
  match (s.ports.get p).frame with
  | .expectOrder => s.sampleBit p dat
  | .params => s.sampleBit p dat
  | .reply => s.replyEdge p dat
  | .paused => s

/-- The reply clock at which a released bit reads low; where the part presents no released bit, or has met contention
already, there is none (R176). -/
def State.contendedClock (p : Port) (s : State) : State :=
  if (s.ports.get p).contends false then s.replyEdge p false else s

/-! ### SEL edges (R173) -/

/-- A port after a rising edge of SEL (R173). -/
def Lp.selRise (q : Lp) : Lp :=
  match q.frame with
  | .expectOrder => { q with selected := false, shift := [] }
  | .params => { q with selected := false, frame := .paused, shift := [] }
  | .paused => { q with selected := false }
  | .reply => { q with selected := false, frame := .expectOrder, shift := [], reply := none }

/-- A port after a falling edge of SEL (R173, R169). -/
def Lp.selFall (q : Lp) : Lp :=
  match q.frame with
  | .expectOrder => { q with selected := true, shift := [] }
  | .params => { q with selected := true, shift := [] }
  | .paused => { q with selected := true, frame := .params, shift := [] }
  | .reply => { q with selected := true }

/-! ### Device reset (00 0.5, R169) -/

/-- Power-on, or assertion of RESET: every block in its state after device reset, held there; the timers that device reset
starts wait for its release. The inputs SEL keep their levels (log 29). The waiting commands and the count of free choices are
the model's own and stay (log 22). -/
def State.deviceReset (s : State) : State :=
  { State.reset with
    held := true, lq.shiftTimer := .stopped, sd.refreshTimer := .stopped, sd.blinkTimer := .stopped
    ports :=
      ⟨{ Lp.reset with selected := s.ports.a.selected }, { Lp.reset with selected := s.ports.b.selected }⟩
    choices := s.choices, pending := s.pending }

/-- Release of RESET, or completion of power-on: the tick starts, and with it every timer that device reset starts. -/
def State.resetRelease (s : State) : State :=
  if s.held then
    { s with
      held := false, lq.shiftTimer := .counting 0, sd.refreshTimer := .counting 0, sd.blinkTimer := .counting 0 }
  else s

/-! ### Meanings -/

/-- DEVICE_RESET. -/
def execDeviceReset (s : State) : Out := .next s.deviceReset

/-- RESET_RELEASE. -/
def execResetRelease (s : State) : Out := .next s.resetRelease

/-- STRAY (R170). -/
def execStray (p : Port) (unit : Byte) (s : State) : Out := live s (State.whileSelected p (State.kind1Unit p unit))

/-- BAD_ORDER (R170). -/
def execBadOrder (p : Port) (code : Byte) (s : State) : Out := live s (State.whileSelected p (State.kind0Unit p code))

/-- PARAMETER_UNIT (R171). -/
def execParameterUnit (p : Port) (unit : Byte) (s : State) : Out :=
  live s (State.whileSelected p (State.kind1Unit p unit))

/-- ORDER_UNIT (R170). -/
def execOrderUnit (p : Port) (code : Byte) (s : State) : Out := live s (State.whileSelected p (State.kind0Unit p code))

/-- SEL_RISE (R173). The level of SEL is the master's: it follows its edges while RESET holds the part too, which changes nothing
else of a port in its state after device reset (R169, 00 0.5). -/
def execSelRise (p : Port) (s : State) : Out := .next (s.setPort p (s.ports.get p).selRise)

/-- SEL_FALL (R173), while RESET holds the part too, as for SEL_RISE. -/
def execSelFall (p : Port) (s : State) : Out := .next (s.setPort p (s.ports.get p).selFall)

/-- REPLY_CLOCK (R175). -/
def execReplyClock (p : Port) (dat : Bool) (s : State) : Out := live s (State.whileSelected p (State.clockEdge p dat))

/-- CONTENTION (R176). -/
def execContention (p : Port) (s : State) : Out := live s (State.whileSelected p (State.contendedClock p))

/-- READ_LIVE. -/
def execReadLive (p : Port) (s : State) : Out := live s (State.takeOrder p orderReadLive)

/-- PORT_STATUS. -/
def execPortStatus (p : Port) (s : State) : Out := live s (State.takeOrder p (orderPortStatus p))

/-- LINK_RESET. -/
def execLinkReset (p : Port) (s : State) : Out := live s (State.takeOrder p (orderLinkReset p))

/-- DEPOSIT_MESSAGE: its order unit, then its length, SHOW and message units (R160, log 8). -/
def execDepositMessage (p : Port) (length showFlag : Byte) (bytes : List Byte) (s : State) : Out :=
  live s (State.whileSelected p fun t => (t.kind0Unit p depositCode).kind1Units p (length :: showFlag :: bytes))

/-- PUT_TEXT: its order unit, then its length and its characters (R152, log 8). -/
def execPutText (p : Port) (length : Byte) (chars : List Byte) (s : State) : Out :=
  live s (State.whileSelected p fun t => (t.kind0Unit p textCode).kind1Units p (length :: chars))

end Sys2Proof.Machine
end

