-- ==== Sys2Proof/WellFormed.lean ====
section
/-! DEFINITION. Which commands a sender can form: the bytes that follow a length, and the codes that a unit row stands for. -/

namespace Sys2Proof

open Sys2Proof.Machine (Calls callsOf lengthCount)

/-- The bytes that follow a length unit are as many as it stands for, 0 standing for 64 (R152, R160, R171). -/
def lengthAgrees (length : Byte) (bytes : List Byte) : Bool := bytes.length == lengthCount length

/-- An order code of Table 11-3. -/
def knownCode (code : Byte) : Bool := (callsOf code).isSome

/-- An order code of Table 11-3 whose order carries parameters (R170). -/
def codeWithParameters (code : Byte) : Bool := knownCode code && callsOf code != some (.fixed 0)

/-- The command is one that its row stands for: ORDER_UNIT has a known code with parameters, BAD_ORDER a code outside the
order table (R170), and the orders with a length carry as many bytes as it says (R171). Every other command is well formed
whatever its operands are. -/
def Instr.wf : Instr → Bool
  | .orderUnit _ code => codeWithParameters code
  | .badOrder _ code => !knownCode code
  | .depositMessage _ length _ bytes => lengthAgrees length bytes
  | .putText _ length chars => lengthAgrees length chars
  | _ => true

end Sys2Proof
end

