-- ==== Sys2Proof/Machine/Dispatch.lean ====
section
/-! DEFINITION. The dispatch: one arm for each row of spec/opcode_table.json. -/

namespace Sys2Proof.Machine

open Sys2Proof

/-- What a command does to everything but the queue. -/
def exec (i : Instr) (s : State) : Host.Outcome State Fault Refusal :=
  match i with
  | .deviceReset => Sys2Proof.Machine.execDeviceReset s
  | .receivedSampleSet bits => Sys2Proof.Machine.execReceivedSampleSet bits s
  | .pacePulse => Sys2Proof.Machine.execPacePulse s
  | .sampleLoss => Sys2Proof.Machine.execSampleLoss s
  | .lineSampleTick levels => Sys2Proof.Machine.execLineSampleTick levels s
  | .lineUpdate => Sys2Proof.Machine.execLineUpdate s
  | .windowTimerExpiry => Sys2Proof.Machine.execWindowTimerExpiry s
  | .dwellTimerExpiry => Sys2Proof.Machine.execDwellTimerExpiry s
  | .holdLapse => Sys2Proof.Machine.execHoldLapse s
  | .refreshExpiry => Sys2Proof.Machine.execRefreshExpiry s
  | .stripFrameSent => Sys2Proof.Machine.execStripFrameSent s
  | .blinkToggle => Sys2Proof.Machine.execBlinkToggle s
  | .advisoryHoldExpiry => Sys2Proof.Machine.execAdvisoryHoldExpiry s
  | .loadDurationTick => Sys2Proof.Machine.execLoadDurationTick s
  | .shiftDurationTick => Sys2Proof.Machine.execShiftDurationTick s
  | .stray p unit => Sys2Proof.Machine.execStray p unit s
  | .badOrder p code => Sys2Proof.Machine.execBadOrder p code s
  | .parameterUnit p unit => Sys2Proof.Machine.execParameterUnit p unit s
  | .selRise p => Sys2Proof.Machine.execSelRise p s
  | .selFall p => Sys2Proof.Machine.execSelFall p s
  | .contention p => Sys2Proof.Machine.execContention p s
  | .run p => Sys2Proof.Machine.execRun p s
  | .stop p => Sys2Proof.Machine.execStop p s
  | .readLive p => Sys2Proof.Machine.execReadLive p s
  | .readOpenLoad p => Sys2Proof.Machine.execReadOpenLoad p s
  | .setTarget p fields => Sys2Proof.Machine.execSetTarget p fields s
  | .setNext p noneFlag fields => Sys2Proof.Machine.execSetNext p noneFlag fields s
  | .closeLoad p => Sys2Proof.Machine.execCloseLoad p s
  | .collectLoad p => Sys2Proof.Machine.execCollectLoad p s
  | .releaseLoad p number => Sys2Proof.Machine.execReleaseLoad p number s
  | .readShift p => Sys2Proof.Machine.execReadShift p s
  | .shiftEnd p => Sys2Proof.Machine.execShiftEnd p s
  | .readSettingsSample p => Sys2Proof.Machine.execReadSettingsSample p s
  | .readSettingsWeigh p => Sys2Proof.Machine.execReadSettingsWeigh p s
  | .readSettingsCycle p => Sys2Proof.Machine.execReadSettingsCycle p s
  | .readSettingsLoad p => Sys2Proof.Machine.execReadSettingsLoad p s
  | .readSettingsLines p => Sys2Proof.Machine.execReadSettingsLines p s
  | .readSettingsStrip p => Sys2Proof.Machine.execReadSettingsStrip p s
  | .writeSettingsSample p paceRate => Sys2Proof.Machine.execWriteSettingsSample p paceRate s
  | .writeSettingsWeigh p record => Sys2Proof.Machine.execWriteSettingsWeigh p record s
  | .writeSettingsCycle p record => Sys2Proof.Machine.execWriteSettingsCycle p record s
  | .writeSettingsLoad p record => Sys2Proof.Machine.execWriteSettingsLoad p record s
  | .writeSettingsLines p record => Sys2Proof.Machine.execWriteSettingsLines p record s
  | .writeSettingsStrip p record => Sys2Proof.Machine.execWriteSettingsStrip p record s
  | .readMaterial p index => Sys2Proof.Machine.execReadMaterial p index s
  | .writeMaterial p fields => Sys2Proof.Machine.execWriteMaterial p fields s
  | .takeHold p => Sys2Proof.Machine.execTakeHold p s
  | .dropHold p => Sys2Proof.Machine.execDropHold p s
  | .calTare p => Sys2Proof.Machine.execCalTare p s
  | .calLoaded p mref => Sys2Proof.Machine.execCalLoaded p mref s
  | .calZero p => Sys2Proof.Machine.execCalZero p s
  | .calAbort p => Sys2Proof.Machine.execCalAbort p s
  | .readTable p => Sys2Proof.Machine.execReadTable p s
  | .writeTable p record => Sys2Proof.Machine.execWriteTable p record s
  | .depositMessage p length showFlag bytes => Sys2Proof.Machine.execDepositMessage p length showFlag bytes s
  | .readMessage p => Sys2Proof.Machine.execReadMessage p s
  | .topNotice p => Sys2Proof.Machine.execTopNotice p s
  | .readNotices p => Sys2Proof.Machine.execReadNotices p s
  | .clearNotices p mask => Sys2Proof.Machine.execClearNotices p mask s
  | .enableNotices p enables => Sys2Proof.Machine.execEnableNotices p enables s
  | .lineState p => Sys2Proof.Machine.execLineState p s
  | .setWatch p mask compare mode => Sys2Proof.Machine.execSetWatch p mask compare mode s
  | .traceArm p mode => Sys2Proof.Machine.execTraceArm p mode s
  | .traceRead p n => Sys2Proof.Machine.execTraceRead p n s
  | .openWindow p fields => Sys2Proof.Machine.execOpenWindow p fields s
  | .putText p length chars => Sys2Proof.Machine.execPutText p length chars s
  | .setStrip p override => Sys2Proof.Machine.execSetStrip p override s
  | .portStatus p => Sys2Proof.Machine.execPortStatus p s
  | .linkReset p => Sys2Proof.Machine.execLinkReset p s
  | .orderUnit p code => Sys2Proof.Machine.execOrderUnit p code s
  | .replyClock p dat => Sys2Proof.Machine.execReplyClock p dat s
  | .resetRelease => Sys2Proof.Machine.execResetRelease s

end Sys2Proof.Machine
end

