-- ==== Sys2Proof/Safety.lean ====
section
/-! DEFINITION. What a sound state of the part is, in the spec's own terms: the invariants that the rules promise of every state,
and the words in which a taken order is stated. -/

namespace Sys2Proof.Machine

open Sys2Proof

/-! ### Orders -/

/-- Port `p` can take an order with its next order unit: RESET does not hold the part, SEL is low and the frame is in
EXPECT_ORDER (R169, R170). -/
def State.ready (p : Port) (s : State) : Prop :=
  s.held = false ∧ (s.ports.get p).selected = true ∧ (s.ports.get p).frame = .expectOrder

/-- The state `s` once an order on port `p` is taken with result `r` and reply bytes `reply`: the frame is in REPLY with the reply
fixed and not yet clocked, the result is the last result (R171), and the hold's idle timer restarts if `p` is the holder (R157). -/
def State.answered (p : Port) (r : ResultCode) (reply : List Byte) (s : State) : State :=
  { s with
    ports := s.ports.set p
      { s.ports.get p with
        frame := .reply, shift := [], order := none, ended := false, reply := some ⟨r.code :: reply, 0⟩
        contentionSeen := false, lastResult := r }
    ex.holdTimer := if s.ex.hold = some p then .started else s.ex.holdTimer }

/-- `k` steps, one after another. -/
def steps : Nat → State → Out
  | 0, s => .next s
  | k + 1, s =>
    match step s with
    | .next t => steps k t
    | o => o

/-- The commands that are order rows: one whole order each, its parameters with it. -/
def isOrderRow : Instr → Option Port
  | .run p | .stop p | .readLive p | .readOpenLoad p | .setTarget p _ | .setNext p _ _ | .closeLoad p | .collectLoad p
  | .releaseLoad p _ | .readShift p | .shiftEnd p | .readSettingsSample p | .readSettingsWeigh p | .readSettingsCycle p
  | .readSettingsLoad p | .readSettingsLines p | .readSettingsStrip p | .writeSettingsSample p _ | .writeSettingsWeigh p _
  | .writeSettingsCycle p _ | .writeSettingsLoad p _ | .writeSettingsLines p _ | .writeSettingsStrip p _
  | .readMaterial p _ | .writeMaterial p _ | .takeHold p | .dropHold p | .calTare p | .calLoaded p _ | .calZero p
  | .calAbort p | .readTable p | .writeTable p _ | .readMessage p | .topNotice p | .readNotices p | .clearNotices p _
  | .enableNotices p _ | .lineState p | .setWatch p _ _ _ | .traceArm p _ | .traceRead p _ | .openWindow p _
  | .setStrip p _ | .portStatus p | .linkReset p => some p
  | _ => none

/-- The wire form of an order row: its port, its order code, and its parameter bytes as Table 11-3 and Table 11-4 lay them out; for
WRITE_SETTINGS the group code and the group's record, which the rest of the 24-byte record area follows (R181). -/
def orderWire : Instr → Option (Port × Byte × List Byte)
  | .run p => some (p, 0x01, [])
  | .stop p => some (p, 0x02, [])
  | .readLive p => some (p, 0x03, [])
  | .readOpenLoad p => some (p, 0x04, [])
  | .setTarget p w => some (p, 0x05, targetWireBytes w)
  | .setNext p n w => some (p, 0x06, n :: targetWireBytes w)
  | .closeLoad p => some (p, 0x07, [])
  | .collectLoad p => some (p, 0x08, [])
  | .releaseLoad p n => some (p, 0x09, bytes16 n)
  | .readShift p => some (p, 0x0A, [])
  | .shiftEnd p => some (p, 0x0B, [])
  | .readSettingsSample p => some (p, 0x10, [0])
  | .readSettingsWeigh p => some (p, 0x10, [1])
  | .readSettingsCycle p => some (p, 0x10, [2])
  | .readSettingsLoad p => some (p, 0x10, [3])
  | .readSettingsLines p => some (p, 0x10, [4])
  | .readSettingsStrip p => some (p, 0x10, [5])
  | .writeSettingsSample p r => some (p, 0x11, [0, r])
  | .writeSettingsWeigh p w => some (p, 0x11, 1 :: w.nCyl :: bytes16 w.aHead ++ bytes16 w.aRod ++ bytes16 w.thetaStart
      ++ bytes16 w.thetaEnd ++ [w.filter, w.minS, w.minB, w.kp] ++ bytes16 w.pitchLimit ++ [w.wtMax])
  | .writeSettingsCycle p w => some (p, 0x11, 2 :: bytes16 w.thetaLow ++ bytes16 w.thetaDump ++ bytes16 w.phiDump
      ++ [w.hyst] ++ bytes16 w.dumpDwell)
  | .writeSettingsLoad p w => some (p, 0x11, 3 :: bytes16 w.bucketVol ++ [w.tol, w.ovr, w.autoClose, w.barMode])
  | .writeSettingsLines p w => some (p, 0x11, 4 :: w.funcs.toList ++ w.polarities.toList ++ w.debounce.toList)
  | .writeSettingsStrip p w => some (p, 0x11, [5, w.refresh, w.advisoryHold, w.mirror])
  | .readMaterial p i => some (p, 0x12, [i])
  | .writeMaterial p w => some (p, 0x13, w.index :: w.nameLength :: w.name.toList ++ bytes16 w.density)
  | .takeHold p => some (p, 0x18, [])
  | .dropHold p => some (p, 0x19, [])
  | .calTare p => some (p, 0x1A, [])
  | .calLoaded p mref => some (p, 0x1B, bytes16 mref)
  | .calZero p => some (p, 0x1C, [])
  | .calAbort p => some (p, 0x1D, [])
  | .readTable p => some (p, 0x1E, [])
  | .writeTable p w =>
    some (p, 0x1F, bytes16 w.mref ++ w.tare.toList.flatMap bytes32 ++ w.loaded.toList.flatMap bytes32)
  | .depositMessage p length showFlag bytes => some (p, 0x20, length :: showFlag :: bytes)
  | .readMessage p => some (p, 0x21, [])
  | .topNotice p => some (p, 0x22, [])
  | .readNotices p => some (p, 0x23, [])
  | .clearNotices p mask => some (p, 0x24, bytes16 mask)
  | .enableNotices p enables => some (p, 0x25, bytes16 enables)
  | .lineState p => some (p, 0x28, [])
  | .setWatch p mask compare mode => some (p, 0x29, [mask, compare, mode])
  | .traceArm p mode => some (p, 0x2A, [mode])
  | .traceRead p n => some (p, 0x2B, [n])
  | .openWindow p f => some (p, 0x30, [f.cs, f.ce, f.rs, f.re, f.direction])
  | .putText p length chars => some (p, 0x31, length :: chars)
  | .setStrip p o => some (p, 0x32, [o])
  | .portStatus p => some (p, 0x38, [])
  | .linkReset p => some (p, 0x3F, [])
  | _ => none
where
  /-- The nine bytes of SET_TARGET (Table 11-3). -/
  targetWireBytes (w : TargetWire) : List Byte :=
    w.truck.presence :: bytes16 w.truck.value ++ [w.material, w.target.presence] ++ bytes32 w.target.value

/-- The units of an order on port `p`, as the unit rows name them: its order unit and its parameter units (R170, R171). -/
def orderUnits (p : Port) (code : Byte) (params : List Byte) : List Instr :=
  .orderUnit p code :: params.map fun b => .parameterUnit p b

/-! ### A received sample set (R4 to R8, R52 to R60) -/

/-- The θ that SP uses of a set, clamped or held; absent when the set is not accepted (R5, R7). -/
def State.thetaUsed (x : SampleSet) (s : State) : Option Int :=
  if x.faults.getLsbD 2 then (if s.sp.heldAngle < 3 then s.sp.lastTheta else none) else some (min 700 (max (-600) x.theta))

/-- The φ that SP uses of a set: clamped, held, or 0 (R5, R8). -/
def State.phiUsed (x : SampleSet) (s : State) : Int :=
  if x.faults.getLsbD 3 then s.sp.lastPhi.getD 0 else min 900 (max (-900) x.phi)

/-- The ψ that SP uses of a set: clamped, held, or 0 (R5, R8). -/
def State.psiUsed (x : SampleSet) (s : State) : Int :=
  if x.faults.getLsbD 4 then s.sp.lastPsi.getD 0 else min 350 (max (-350) x.psi)

/-- The frame `bits` is a sample set `x` that is accepted with the angle `theta`, clamped or held: RESET does not hold the part and
sampling is RUNNING (R3, R5, R7). -/
def goodSample (bits : List Bool) (x : SampleSet) (theta : Int) (s : State) : Prop :=
  s.held = false ∧ s.sp.sampling = .running ∧ sampleSetOf bits = some x ∧ s.thetaUsed x = some theta

/-- `e` is the trace entry of the set `x` that SP received in `s`, `after` being the tracker state after it (1.6.1). The fault flag
byte is recorded whole (log 20). -/
def State.recorded (x : SampleSet) (after : Tracker) (e : TraceEntry) (s : State) : Prop :=
  e.seq = x.seq ∧ e.faults = x.faults
    ∧ e.ph = (if x.faults.getLsbD 0 then none else some (min 45000 x.ph))
    ∧ e.pr = (if x.faults.getLsbD 1 then none else some (min 45000 x.pr))
    ∧ e.theta = s.thetaUsed x ∧ e.phi = s.phiUsed x ∧ e.psi = s.psiUsed x ∧ e.marks = s.marksOf x
    ∧ e.fRaw = rawForce s.we.weigh x.channels ∧ e.tracker = after

/-- The filter of `v` is that of `w` after an accepted sample of raw force `f`: a present force joins the history, which keeps its
newest 8 values, and F_f is the rounded mean of the newest ones, FILTER of them at most; an absent one changes nothing (R52). -/
def We.filtered (f : Option Int) (w v : We) : Prop :=
  match f with
  | none => v.history = w.history ∧ v.latestF = w.latestF
  | some x =>
    let k := min w.weigh.filter v.history.length
    v.history = (if w.history.length < 8 then w.history else w.history.tail) ++ [x]
      ∧ v.latestF = some (roundDiv (v.history.drop (v.history.length - k)).sum k)

/-- `v` is `w` after the set `x`, received in `s`, has been taken into the open window as a window sample at `theta`: the filter, the
marks, the pitch and the bin, in that order; a bin of 255 samples is full, and so is a window of 65,535 (R55 to R60). -/
def State.windowTaken (x : SampleSet) (theta : Int) (w v : We) (s : State) : Prop :=
  let f := rawForce s.we.weigh x.channels
  let m := s.marksOf x
  w.filtered f v
    ∧ v.weigh = w.weigh ∧ v.pendingWeigh = w.pendingWeigh ∧ v.zt = w.zt ∧ v.windowOpen = w.windowOpen
    ∧ v.marks = ⟨w.marks.gapped || m.held || m.gap || f.isNone, w.marks.clipped || m.clipped,
        w.marks.slope || decide (w.weigh.pitchLimit < |s.psiUsed x|)⟩
    ∧ (w.samples < 65535 → v.samples = w.samples + 1 ∧ v.pitchSum = w.pitchSum + s.psiUsed x)
    ∧ (65535 ≤ w.samples → v.samples = w.samples ∧ v.pitchSum = w.pitchSum)
    ∧ ∀ b,
      if f.isSome = true ∧ w.weigh.bin theta = some b ∧ w.counts.get b < 255 then
        v.gross.get b = w.gross.get b + v.latestF.getD 0 ∧ v.counts.get b = w.counts.get b + 1
      else v.gross.get b = w.gross.get b ∧ v.counts.get b = w.counts.get b

/-! ### The machine lines (R18 to R28) -/

/-- The active level of line `k`: its debounced level, inverted for a line of INVERTED polarity (R20). -/
def State.lineActive (k : Fin 8) (s : State) : Bool :=
  s.lm.debounced.getLsbD k.val != s.lm.settings.inverted.getLsbD k.val

/-- A level function is active: some line of its set is active (R22). -/
def State.fnActive (f : LineFn) (s : State) : Prop := ∃ k, s.lm.settings.funcs.get k = f ∧ s.lineActive k = true

/-- Line `k` takes its raw level at the line update that is due: the levels differ, and the difference count is at least the
debounce time divided by 10 ms (R18). -/
def State.lineTurns (k : Fin 8) (s : State) : Prop :=
  s.lm.raw.getLsbD k.val ≠ s.lm.debounced.getLsbD k.val ∧ s.lm.settings.debounce.get k / 10 ≤ s.lm.diff.get k

/-- A line update is due at which line `k` alone turns, with an active edge (R18, R20). -/
def State.pressed (k : Fin 8) (s : State) : Prop :=
  s.held = false ∧ s.lm.updateDue = true ∧ s.lineActive k = false ∧ ∀ j, s.lineTurns j ↔ j = k

/-- An evaluation of a watch raises a watch event (R27). -/
def Watch.eventRaised (w : Watch) (before after : BitVec 8) : Prop :=
  match w.mode with
  | .off => False
  | .matching inMatch => inMatch = false ∧ ∀ k < 8, w.mask.getLsbD k = true → after.getLsbD k = w.compare.getLsbD k
  | .change => ∃ k < 8, w.mask.getLsbD k = true ∧ after.getLsbD k ≠ before.getLsbD k

/-- A watch after an evaluation that found the active levels `after` (R27, R28). -/
def Watch.follows (w v : Watch) (before after : BitVec 8) : Prop :=
  v.mask = w.mask ∧ v.compare = w.compare
    ∧ (w.eventRaised before after → v.capture = some after ∧ v.count = min 255 (w.count + 1))
    ∧ (¬w.eventRaised before after → v.capture = w.capture ∧ v.count = w.count)
    ∧ match w.mode with
      | .off => v.mode = .off
      | .matching _ =>
        ∃ m, v.mode = .matching m
          ∧ (m = true ↔ ∀ k < 8, w.mask.getLsbD k = true → after.getLsbD k = w.compare.getLsbD k)
      | .change => v.mode = .change

/-- A line update is due at which line `k` alone turns, with a release edge (R18, R20). -/
def State.released (k : Fin 8) (s : State) : Prop :=
  s.held = false ∧ s.lm.updateDue = true ∧ s.lineActive k = true ∧ ∀ j, s.lineTurns j ↔ j = k

/-- `d` is `c`, which has recorded a change of DUMP_SWITCH, after the change is judged with the angles of the latest accepted sample:
in RAISED and RETURNING the dwell timer follows the dump condition, in DUMPING the bucket may be back (R44, R47, R48). -/
def Ct.dumpSwitched (theta phi : Int) (c d : Ct) : Prop :=
  let tipped := c.dumpConfigured = true ∧ c.dumpSwitch = true
  (c.tracker = .raised ∨ c.tracker = .returning →
      d = { c with
        dwellTimer :=
          if c.cycle.thetaDump ≤ theta ∧ (phi ≤ c.cycle.phiDump ∨ tipped) then
            (if c.dwellTimer = .stopped then .started else c.dwellTimer)
          else .stopped })
    ∧ (c.tracker = .dumping →
      d = { c with
        tracker :=
          if c.cycle.phiDump + c.cycle.hyst ≤ phi ∧ ¬tipped ∨ theta < c.cycle.thetaDump - c.cycle.hyst then .returning
          else .dumping })
    ∧ (c.tracker ≠ .raised → c.tracker ≠ .returning → c.tracker ≠ .dumping → d = c)

/-- The level functions are those of R22, their receivers have recorded them, and every difference count is in its range. -/
def State.linesSound (s : State) : Prop :=
  (s.lm.levels.park = true ↔ s.fnActive .park)
    ∧ (s.lm.levels.dumpSwitch = true ↔ s.fnActive .dumpSwitch)
    ∧ (s.lm.levels.lights = true ↔ s.fnActive .lights)
    ∧ (s.lm.levels.dumpConfigured = true ↔ ∃ k, s.lm.settings.funcs.get k = .dumpSwitch)
    ∧ (s.ct.park = s.lm.levels.park ∧ s.ct.dumpSwitch = s.lm.levels.dumpSwitch
      ∧ s.ct.dumpConfigured = s.lm.levels.dumpConfigured ∧ s.sd.lights = s.lm.levels.lights)
    ∧ ∀ k, s.lm.diff.get k ≤ 25

/-! ### Weigh aborts (R40) -/

/-- The calibration state that a weigh abort leaves: a lift state goes back to its armed state (R84). -/
def CalState.armedAgain : CalState → CalState
  | .tareLift => .tareArmed
  | .loadedLift => .loadedArmed
  | .zeroLift => .zeroArmed
  | c => c

/-- A queue of transient advisories with one more queued (R148). -/
def withAdvisory (x : Advisory) (q : List Advisory) : List Advisory :=
  if q.length < 4 then q ++ [x] else q.take (q.length - 1) ++ [x]

/-- `t` is `s` after a weigh abort, apart from the tracker, the trace, the advisory queue and what SP does beside it: the window is
discarded, an armed calibration waits again, the abort is counted and WEIGH_ABORT is pending at both ports (R40, R71, R84, R130). -/
def State.weighAborted (s t : State) : Prop :=
  t.ct.abortCause.isSome ∧ t.ct.windowTimer = .stopped ∧ t.ct.highTheta = none
    ∧ (t.we.windowOpen = false ∧ t.we.samples = 0 ∧ t.we.pitchSum = 0 ∧ t.we.marks = ⟨false, false, false⟩
      ∧ ∀ b, t.we.gross.get b = 0 ∧ t.we.counts.get b = 0)
    ∧ (t.we.weigh = s.we.weigh ∧ t.we.pendingWeigh = s.we.pendingWeigh ∧ t.we.zt = s.we.zt
      ∧ t.we.history = s.we.history ∧ t.we.latestF = s.we.latestF)
    ∧ t.cu = { s.cu with cal := s.cu.cal.armedAgain }
    ∧ t.lt = s.lt ∧ t.lq = { s.lq with counters.aborts := min 65535 (s.lq.counters.aborts + 1) }
    ∧ ∀ p, (t.ex.pending.get p).getLsbD 9 = true

/-- `t` is `s` after a loss of the hold that ended a running calibration, whatever the event did beside it at its port (R92, R156,
R157). -/
def State.lossOfHold (s t : State) : Prop :=
  t.ex.hold = none ∧ t.ex.holdTimer = .stopped
    ∧ t.cu = { s.cu with
        cal := .idle, scratchTare := none, scratchLoaded := none, scratchMref := none
        outcome := some ⟨none, .failed, some .aborted, none, none, none, none⟩ }
    ∧ (∀ p, (t.ex.pending.get p).getLsbD 3 = true)
    ∧ t.sd.advisories = withAdvisory .calFailed s.sd.advisories
    ∧ t.we = s.we ∧ t.ct = s.ct ∧ t.lt = s.lt ∧ t.lq = s.lq ∧ t.lm = s.lm ∧ t.sp = s.sp
    ∧ t.ex.slots = s.ex.slots ∧ t.ex.enable = s.ex.enable

/-! ### LOW entry (R49) -/

/-- CT after LOW entry: below-start memory clear, dwell timer stopped, a pending CYCLE record in force (R49). -/
def Ct.lowEntered (c : Ct) : Ct :=
  { c with
    tracker := .low, belowStart := false, dwellTimer := .stopped, cycle := c.pendingCycle.getD c.cycle
    pendingCycle := none }

/-- `t` is `s` at WE, CU and SD after LOW entry, the filter apart: a pending WEIGH record is in force. One of another geometry makes a
VALID table STALE and ends a running calibration with cause SETTINGS (R49, R75, R93). -/
def State.lowEntryTaken (s t : State) : Prop :=
  let w := s.we.weigh
  let r := s.we.pendingWeigh.getD w
  let same := r.nCyl = w.nCyl ∧ r.aHead = w.aHead ∧ r.aRod = w.aRod ∧ r.thetaStart = w.thetaStart ∧ r.thetaEnd = w.thetaEnd
  let table : TableState := if s.cu.table = .valid then .stale else s.cu.table
  t.we = { s.we with weigh := r, pendingWeigh := none, history := t.we.history, latestF := t.we.latestF }
    ∧ (same → t.cu = s.cu ∧ t.sd = s.sd)
    ∧ (¬same → s.cu.cal = .idle → t.cu = { s.cu with table := table } ∧ t.sd = s.sd)
    ∧ (¬same → s.cu.cal ≠ .idle →
      t.cu = { s.cu with
          table := table, cal := .idle, scratchTare := none, scratchLoaded := none, scratchMref := none
          outcome := some ⟨none, .failed, some .settings, none, none, none, none⟩ }
        ∧ (∀ p, (t.ex.pending.get p).getLsbD 3 = true) ∧ t.sd.advisories = withAdvisory .calFailed s.sd.advisories)

/-! ### The strip's numbers (R118, R139) -/

/-- The characters `ds` write `n` in decimal: digits, at least one, no leading zero. -/
def isDecimal (ds : List Byte) (n : Nat) : Prop :=
  ds ≠ [] ∧ (∀ d ∈ ds, 0x30 ≤ d.toNat ∧ d.toNat ≤ 0x39) ∧ (ds.length ≠ 1 → ds.head? ≠ some 0x30)
    ∧ ds.foldl (fun a d => 10 * a + (d.toNat - 0x30)) 0 = n

/-! ### What commands leave alone -/

/-- `t` differs from `s` in none of the lines, the ports, the exchange beside the pending flags, the strip beside the advisory queue
and its hold timer, and the model's own fields. -/
def State.restKept (s t : State) : Prop :=
  t.lm = s.lm ∧ t.ports = s.ports ∧ t.ex = { s.ex with pending := t.ex.pending }
    ∧ t.sd = { s.sd with advisories := t.sd.advisories, holdTimer := t.sd.holdTimer, holdTime := t.sd.holdTime }
    ∧ t.held = s.held ∧ t.choices = s.choices ∧ t.pending = s.pending

/-- `t` is `s` after an order of port `p`, with the lines, the samples, the other port, the exchange beside the pending flags and a
restart of the hold's idle timer by its holder (R157), and the strip beside the advisory queue as they were. -/
def State.orderRestKept (p : Port) (s t : State) : Prop :=
  t.lm = s.lm ∧ t.sp = s.sp ∧ t.ports = s.ports.set p (t.ports.get p) ∧ (t.ports.get p).frame = .reply
    ∧ t.ex = { s.ex with
        pending := t.ex.pending, holdTimer := if s.ex.hold = some p then .started else s.ex.holdTimer }
    ∧ t.sd = { s.sd with advisories := t.sd.advisories, holdTimer := t.sd.holdTimer, holdTime := t.sd.holdTime }
    ∧ t.held = s.held ∧ t.choices = s.choices ∧ t.pending = s.pending

/-! ### The thresholds (3.1.1, R73) -/

/-- A WEIGH and a CYCLE record that may be in force together: θLOW below θSTART, a span of at least 80, θEND at most θDUMP. -/
def WeighRec.fits (w : WeighRec) (c : CycleRec) : Prop :=
  c.thetaLow < w.thetaStart ∧ w.thetaStart + 80 ≤ w.thetaEnd ∧ w.thetaEnd ≤ c.thetaDump

/-- The records in force fit together, and so do those that a LOW entry would bring into force. -/
def State.thresholdsSound (s : State) : Prop :=
  s.we.weigh.fits s.ct.cycle
    ∧ (∀ w, s.we.pendingWeigh = some w → w.fits s.ct.cycle)
    ∧ (∀ c, s.ct.pendingCycle = some c → (s.we.pendingWeigh.getD s.we.weigh).fits c)

/-! ### The calibration table and the scratch table (R78, R80) -/

/-- A reference mass in its range (R78). -/
def massInRange (m : Nat) : Prop := 100 ≤ m ∧ m ≤ 60000

/-- Every span of the table is at least 10,000 (R78). -/
def Cu.spansSound (c : Cu) : Prop := ∀ b, 10000 ≤ c.loaded.get b - c.tare.get b

/-- What the table state says of the table (R78). -/
def Cu.tableSound (c : Cu) : Prop :=
  match c.table with
  | .empty => c.tare = Eight.fill 0 ∧ c.loaded = Eight.fill 0 ∧ c.mref = none ∧ c.origin = none
  | .valid => (∃ m, c.mref = some m ∧ massInRange m) ∧ c.origin.isSome ∧ c.spansSound
  | .stale => (∃ m, c.mref = some m ∧ massInRange m) ∧ c.origin.isSome

/-- What the calibration state says of the scratch table (R80, R85 to R88). -/
def Cu.scratchSound (c : Cu) : Prop :=
  c.scratchLoaded = none ∧
  match c.cal with
  | .loadedWait => c.scratchTare.isSome ∧ c.scratchMref = none
  | .loadedArmed => c.scratchTare.isSome ∧ ∃ m, c.scratchMref = some m ∧ massInRange m
  | .loadedLift => c.scratchTare.isSome ∧ ∃ m, c.scratchMref = some m ∧ massInRange m
  | _ => c.scratchTare = none ∧ c.scratchMref = none

/-- The calibration table and the scratch table are as R78 and R80 say. -/
def State.calibrationSound (s : State) : Prop := s.cu.tableSound ∧ s.cu.scratchSound

/-! ### The tally (R100, R121, R122) -/

/-- A pass list: at most 12 entries, numbered by position, each with the credited mass of R67. -/
def passesSound (ps : List PassEntry) : Prop :=
  ps.length ≤ 12
    ∧ ps.map PassEntry.number = (List.range ps.length).map (· + 1)
    ∧ ∀ e ∈ ps, e.credited = creditedMass e.mass

/-- A load: its pass list, and its total the sum of the credited masses (R100). -/
def Load.sound (l : Load) : Prop := passesSound l.passes ∧ l.total = (l.passes.map PassEntry.credited).sum

/-- The open load: its load state is that of R102, and its duration is 0 with the timer stopped while it is empty (R101). -/
def State.openLoadSound (s : State) : Prop :=
  s.lt.load.sound
    ∧ s.lt.load.state = loadStateOf s.lt.settings s.lt.load
    ∧ (s.lt.load.passes = [] ↔ s.lt.durationTimer = .stopped)
    ∧ (s.lt.load.passes = [] → s.lt.load.duration = 0)

/-- A closed-load record: a sound load that is not empty, with the union of its passes' flags (R121). -/
def ClosedLoad.sound (c : ClosedLoad) : Prop :=
  c.load.sound ∧ c.load.passes ≠ [] ∧ c.load.state ≠ .empty
    ∧ c.flags = c.load.passes.foldl (fun f e => f.union e.flags) PassFlags.none

/-- Each number of the list is followed by the next load number (R109). -/
def numbersFollow : List Nat → Prop
  | a :: b :: rest => b = nextLoadNumber a ∧ numbersFollow (b :: rest)
  | _ => True

/-- The load numbers in the part, oldest first: the queue's, the open load's, and the next one. -/
def State.loadNumbers (s : State) : List Nat :=
  s.lq.queue.map (fun c => c.load.number) ++ [s.lt.load.number, s.lt.nextNumber]

/-- The tally is sound: the open load, the queue of at most 32 records, and the load numbers. -/
def State.tallySound (s : State) : Prop :=
  s.openLoadSound
    ∧ s.lq.queue.length ≤ 32
    ∧ (∀ c ∈ s.lq.queue, c.sound)
    ∧ numbersFollow s.loadNumbers
    ∧ ∀ n ∈ s.loadNumbers, 1 ≤ n ∧ n ≤ 65535

/-! ### The tracker, the window and the timers (Chapters 3 and 4) -/

/-- The calibration state is a lift state (Table 5-2). -/
def CalState.isLift (c : CalState) : Bool := c == .tareLift || c == .loadedLift || c == .zeroLift

/-- The tracker agrees with sampling (1.1.1), with the weigh window (R54, R80) and with its own timers and memory
(Table 3-3, R44). -/
def State.trackerSound (s : State) : Prop :=
  (s.sp.sampling = .stopped ↔ s.ct.tracker = .stopped)
    ∧ (s.we.windowOpen = true ↔ s.ct.tracker = .weighing)
    ∧ (s.ct.highTheta.isSome ↔ s.ct.tracker = .weighing)
    ∧ (s.ct.windowTimer ≠ .stopped ↔ s.ct.tracker = .weighing)
    ∧ (s.ct.dwellTimer ≠ .stopped → s.ct.tracker = .raised ∨ s.ct.tracker = .returning)
    ∧ (s.ct.belowStart = true → s.ct.tracker = .lifting)
    ∧ (s.ct.cycleRef = .stopped ↔ s.ct.tracker = .stopped)
    ∧ (s.cu.cal.isLift = true → s.ct.tracker = .weighing)

/-! ### The calibration hold (R80, R154) -/

/-- The hold's idle timer runs exactly while the hold is held (R154); while a calibration runs, the hold is held and no pass is
held (R80). -/
def State.holdSound (s : State) : Prop :=
  (s.ex.hold = none ↔ s.ex.holdTimer = .stopped)
    ∧ (s.cu.cal ≠ .idle → s.ex.hold ≠ none ∧ s.lt.held = none)

/-! ### Link ports and message slots (Table 10-2, R159, R160) -/

/-- The items of Table 10-2 and the level of SEL agree with the frame state: a partial unit, parameters and a reply need SEL low,
and PAUSED is a state with SEL high (R169, R173). -/
def Lp.sound (q : Lp) : Prop :=
  q.shift.length ≤ 8 ∧ (q.selected = false → q.shift = []) ∧ q.strays ≤ 255 ∧ q.contentions ≤ 255 ∧
  match q.frame with
  | .expectOrder => q.order = none ∧ q.ended = false ∧ q.reply = none
  | .params =>
    q.selected = true ∧ q.order.isSome ∧ (q.ended = true ↔ q.reply.isSome) ∧ ∀ r, q.reply = some r → r.pos = 0
  | .paused =>
    q.selected = false ∧ q.order.isSome ∧ (q.ended = true ↔ q.reply.isSome) ∧ ∀ r, q.reply = some r → r.pos = 0
  | .reply =>
    q.selected = true ∧ q.order = none ∧ q.ended = false ∧ q.shift = []
      ∧ ∃ r, q.reply = some r ∧ r.pos ≤ 8 * r.bytes.length

/-- The message bytes that the parameters of a deposit hold: what follows the length and SHOW units. -/
def depositBytes (params : List Byte) : Nat := params.length - 2

/-- A port's current order against its outbound slot and its deposit in progress: a deposit not yet settled has an EMPTY slot,
a count of the message bytes taken, and at most 64 bytes to come in all (R159, R160). -/
def depositSound (q : Lp) (slot : Option Message) (deposit : Option Nat) : Prop :=
  match q.order with
  | none => deposit = none
  | some o =>
    if q.ended = true ∨ o.code ≠ depositCode then deposit = none
    else
      slot = none ∧ deposit = some (depositBytes o.params)
        ∧ match o.due with
          | none => o.params = []
          | some n => 1 ≤ n ∧ 1 ≤ o.params.length ∧ 3 ≤ o.params.length + n ∧ o.params.length + n ≤ 66

/-- A message of 1 to 64 bytes (R159). -/
def Message.sound (m : Message) : Prop := 1 ≤ m.bytes.length ∧ m.bytes.length ≤ 64

/-- The ports and the message slots are sound; the store order lists exactly the FULL slots, each once (R159). -/
def State.exchangeSound (s : State) : Prop :=
  (∀ p, (s.ports.get p).sound)
    ∧ (∀ p, depositSound (s.ports.get p) (s.ex.slots.get p) (s.ex.deposits.get p))
    ∧ (∀ p m, s.ex.slots.get p = some m → m.sound)
    ∧ s.ex.storeOrder.Nodup
    ∧ ∀ p, p ∈ s.ex.storeOrder ↔ (s.ex.slots.get p).isSome

/-! ### Bounded buffers (Table 0-2) -/

/-- The Sample Trace Buffer (1.6.1, R15): at most 128 entries; with no owner it is OFF and empty; in LIFT mode it holds nothing
while WAITING, has room while RECORDING, and has dropped nothing. -/
def Trace.sound (t : Trace) : Prop :=
  t.entries.length ≤ 128 ∧ t.drops ≤ 255
    ∧ (t.owner = none → t.mode = .off ∧ t.entries = [] ∧ t.drops = 0)
    ∧ (t.mode = .lift .waiting → t.entries = [])
    ∧ (t.mode = .lift .recording → t.entries.length < 128)
    ∧ ∀ ph, t.mode = .lift ph → t.drops = 0

/-- The shift counters are within the ranges of Table 7-3 (R127). -/
def Counters.sound (c : Counters) : Prop :=
  c.cycles ≤ 65535 ∧ c.cycleTimeSum ≤ 4294967295 ∧ c.credited ≤ 65535 ∧ c.discarded ≤ 65535 ∧ c.undone ≤ 65535
    ∧ c.aborts ≤ 65535 ∧ c.loadsClosed ≤ 65535 ∧ c.tonnes ≤ 4294967295 ∧ c.dropped ≤ 255 ∧ c.duration ≤ 65535

/-- The trace, the force filter history (R52), the advisory queue with its hold timer (R148, R149), the counts of SP (Table 1-4)
and the shift counters (Table 7-3) stay within their bounds. -/
def State.buffersSound (s : State) : Prop :=
  s.sp.trace.sound
    ∧ s.we.history.length ≤ 8
    ∧ s.sd.advisories.length ≤ 4
    ∧ (s.sd.advisories = [] ↔ s.sd.holdTimer = .stopped)
    ∧ (s.sp.heldAngle ≤ 4 ∧ s.sp.cleanRun ≤ 10 ∧ s.sp.gapCount ≤ 65535 ∧ s.sp.frameErrors ≤ 65535)
    ∧ s.lq.counters.sound

/-! ### The port text layer (R150) -/

/-- An open window has its counter inside its bounds, and its bounds inside the layer (R151, R152). -/
def Window.sound (w : Window) : Prop :=
  w.cs ≤ w.col ∧ w.col ≤ w.ce ∧ w.ce ≤ 19 ∧ w.rs ≤ w.row ∧ w.row ≤ w.re ∧ w.re ≤ 1

/-- The layer is in its canonical form, every window is inside it. -/
def State.stripSound (s : State) : Prop :=
  textWf s.sd.text = true ∧ ∀ p w, s.sd.windows.get p = some w → w.sound

end Sys2Proof.Machine
end

