-- ==== Sys2Proof/Certificates/Slice0/Obligations.lean ====
section
/-! DEFINITION. The statements for the provers: what each command does, what it leaves alone, and what every step keeps. -/

open Sys2Proof Sys2Proof.Machine

/-! ### The step, device reset and the queue -/

/-- Step executes the front command with the queue's rest; with no command waiting the part idles, which is the model's choice
(log 5). -/
def Obligations.StepTakesFront : Prop :=
  (∀ (c : Instr) (s : State), step (s.withCommand c) = exec c s)
    ∧ (∀ (c : Instr) (rest : List Instr) (s : State), s.pending = c :: rest → step s = exec c { s with pending := rest })
    ∧ ∀ s : State, s.pending = [] → step s = .next s

/-- What device reset leaves, block by block (Table 1-4, R19, R21, R24, R30, Table 3-6, R51, Table 4-5, Table 4-6, Table 5-5,
Table 6-6, R113, Table 7-4, Table 8-7, Table 8-8, Table 9-4, Table 10-2). The timers of the shift duration, of the refresh and of
the blink phase run from 0, since State.reset stands for the release of RESET, which is the model's choice (log 1); the level of
each SEL is the master's (log 29). -/
def Obligations.ValuesAfterReset : Prop :=
  let s := State.reset
  (s.sp.sampling = .stopped ∧ s.sp.paceRate = .hz100 ∧ s.sp.seqExpect = none ∧ s.sp.lastTheta = none ∧ s.sp.lastPhi = none
      ∧ s.sp.lastPsi = none ∧ s.sp.heldAngle = 0 ∧ s.sp.sensorFault = false ∧ s.sp.cleanRun = 0 ∧ s.sp.gapCount = 0
      ∧ s.sp.liveTheta = none ∧ s.sp.livePhi = none ∧ s.sp.livePsi = none
      ∧ s.sp.frameErrors = 0 ∧ s.sp.pacer = .stopped ∧ s.sp.lossTimer = .stopped ∧ s.sp.pace = false ∧ s.sp.trace.owner = none
      ∧ s.sp.trace.mode = .off ∧ s.sp.trace.entries = [] ∧ s.sp.trace.drops = 0)
    ∧ (s.lm.raw = 0 ∧ s.lm.debounced = 0 ∧ (∀ k, s.lm.diff.get k = 0) ∧ s.lm.settings.inverted = 0
      ∧ (∀ k, s.lm.settings.debounce.get k = 50)
      ∧ s.lm.settings.funcs.toList = [.park, .tipOff, .undo, .nextTruck, .discard, .ackMsg, .unused, .lights]
      ∧ s.lm.levels = ⟨false, false, false, false⟩ ∧ s.lm.firstTick = false ∧ ∀ p, s.lm.watch.get p = ⟨.off, 0, 0, none, 0⟩)
    ∧ (s.ct.tracker = .stopped ∧ s.ct.windowTimer = .stopped ∧ s.ct.dwellTimer = .stopped ∧ s.ct.cycleRef = .stopped
      ∧ s.ct.belowStart = false ∧ s.ct.highTheta = none ∧ s.ct.latestCycle = none ∧ s.ct.abortCause = none
      ∧ s.ct.park = false ∧ s.ct.dumpSwitch = false ∧ s.ct.dumpConfigured = false
      ∧ s.ct.cycle = ⟨-250, 200, -300, 10, 300⟩ ∧ s.ct.pendingCycle = none)
    ∧ (s.we.weigh = ⟨2, 707, 393, -100, 140, 4, 3, 5, 0, 150, 80⟩ ∧ s.we.pendingWeigh = none ∧ s.we.zt = 0
      ∧ s.we.windowOpen = false ∧ (∀ b, s.we.gross.get b = 0 ∧ s.we.counts.get b = 0) ∧ s.we.samples = 0
      ∧ s.we.pitchSum = 0 ∧ s.we.marks = ⟨false, false, false⟩
      ∧ s.we.history = [] ∧ s.we.forceCount = 0 ∧ s.we.latestF = none)
    ∧ (s.cu.table = .empty ∧ (∀ b, s.cu.tare.get b = 0 ∧ s.cu.loaded.get b = 0) ∧ s.cu.mref = none ∧ s.cu.origin = none
      ∧ s.cu.cal = .idle ∧ s.cu.scratchTare = none ∧ s.cu.scratchLoaded = none ∧ s.cu.scratchMref = none
      ∧ s.cu.outcome = none)
    ∧ (s.lt.held = none ∧ s.lt.load = ⟨1, none, 0, none, none, [], 0, .empty, 0⟩ ∧ s.lt.nextNumber = 2
      ∧ s.lt.durationTimer = .stopped ∧ s.lt.nextTruck = none ∧ s.lt.settings = ⟨1050, 3, 5, false, .loadProgress⟩
      ∧ ∀ i, s.lt.materials.get i = ⟨ascii ['M', 'A', 'T'] ++ decimal 1 i.val, 1600⟩)
    ∧ (s.lq.queue = [] ∧ s.lq.counters = ⟨0, 0, 0, 0, 0, 0, 0, 0, 0, 0⟩ ∧ s.lq.shiftTimer = .counting 0
      ∧ s.lq.shiftNo = 1 ∧ s.lq.lastSummary = none)
    ∧ (s.sd.refreshTimer = .counting 0 ∧ s.sd.refreshPeriod = 50 ∧ s.sd.blinkTimer = .counting 0 ∧ s.sd.holdTimer = .stopped
      ∧ s.sd.sending = false ∧ s.sd.snapshot = none ∧ s.sd.blink = true ∧ s.sd.dim = .auto ∧ s.sd.lights = false
      ∧ s.sd.advisories = [] ∧ (∀ a, textRead s.sd.text a = 0x20) ∧ (∀ p, s.sd.windows.get p = none)
      ∧ s.sd.settings = ⟨50, 30, false⟩)
    ∧ (s.ex.hold = none ∧ s.ex.holdTimer = .stopped ∧ s.ex.storeOrder = []
      ∧ ∀ p, s.ex.slots.get p = none ∧ s.ex.deposits.get p = none ∧ s.ex.pending.get p = 0 ∧ s.ex.enable.get p = 0
        ∧ s.atn p = false)
    ∧ ∀ p, ∃ sel, s.ports.get p = ⟨sel, .expectOrder, [], none, false, none, false, .ok, 0, 0⟩

/-- The state after device reset meets every invariant that the later statements say each step keeps. -/
def Obligations.ResetIsSound : Prop :=
  State.reset.thresholdsSound ∧ State.reset.calibrationSound ∧ State.reset.tallySound ∧ State.reset.trackerSound
    ∧ State.reset.holdSound ∧ State.reset.exchangeSound ∧ State.reset.buffersSound ∧ State.reset.stripSound
    ∧ State.reset.linesSound

/-- DEVICE_RESET puts every block into its state after device reset and holds the part; RESET_RELEASE then gives the state of
release with the timers that device reset starts running; given to a part that is not held, it changes nothing (log 2). The
levels of the inputs SEL, the waiting commands and the count of free choices stay, which is the model's choice, as is the moment
that State.reset stands for (log 1, log 22, log 29). -/
def Obligations.DeviceResetAndRelease : Prop :=
  ∀ s : State,
    exec .deviceReset s = .next
        { State.reset with
          held := true, lq.shiftTimer := .stopped, sd.refreshTimer := .stopped, sd.blinkTimer := .stopped
          ports := ⟨{ Lp.reset with selected := s.ports.a.selected }, { Lp.reset with selected := s.ports.b.selected }⟩
          choices := s.choices, pending := s.pending }
      ∧ (s.held = true → exec .resetRelease s = .next
          { s with
            held := false, lq.shiftTimer := .counting 0, sd.refreshTimer := .counting 0, sd.blinkTimer := .counting 0 })
      ∧ (s.held = false → exec .resetRelease s = .next s)
      ∧ step { State.reset with
          held := true, lq.shiftTimer := .stopped, sd.refreshTimer := .stopped, sd.blinkTimer := .stopped
          choices := s.choices, pending := .resetRelease :: s.pending }
        = .next { State.reset with choices := s.choices, pending := s.pending }

/-- Every command completes, none faults and none is refused; it leaves the waiting commands as they are, DEVICE_RESET too, which
is the model's choice (log 22); only DEVICE_RESET and RESET_RELEASE change whether the part is held; and while RESET holds the
part no other command changes anything (00 0.5; that a command given then changes nothing is the model's reading, log 2), but
that the edges of SEL act on their port alone (R169, SelEdges). -/
def Obligations.EveryCommandCompletes : Prop :=
  ∀ (c : Instr) (s : State), ∃ t, exec c s = .next t ∧ t.pending = s.pending
    ∧ (c ≠ .deviceReset → c ≠ .resetRelease → t.held = s.held
      ∧ (s.held = true → (∀ p, c ≠ .selRise p ∧ c ≠ .selFall p) → t = s)
      ∧ ∀ p, c = .selRise p ∨ c = .selFall p → t = { s with ports := s.ports.set p (t.ports.get p) })

/-! ### Sample Port -/

/-- A frame that is not exactly 96 bits raises the frame-error count by one, saturating at 65,535, and does nothing else; while
sampling is STOPPED a frame does nothing at all (R1, R3). The twelve bytes of a sample set: each is sent most significant bit
first, each number most significant byte first, the three angles in two's complement (Table 1-2, R3). -/
def Obligations.SampleFrames : Prop :=
  (∀ (bits : List Bool) (s : State), s.held = false →
      (s.sp.sampling = .stopped → exec (.receivedSampleSet bits) s = .next s)
        ∧ (s.sp.sampling = .running → bits.length ≠ 96 →
            exec (.receivedSampleSet bits) s = .next { s with sp.frameErrors := min 65535 (s.sp.frameErrors + 1) }))
    ∧ (∀ b : Fin 12 → Byte,
        sampleSetOf ((List.ofFn b).flatMap fun x => (List.range 8).map fun k => x.getLsbD (7 - k)) =
          some
            { seq := b 0
              faults := b 1
              ph := 256 * (b 2).toNat + (b 3).toNat
              pr := 256 * (b 4).toNat + (b 5).toNat
              theta := (b 6 ++ b 7 : BitVec 16).toInt
              phi := (b 8 ++ b 9 : BitVec 16).toInt
              psi := (b 10 ++ b 11 : BitVec 16).toInt })

/-- What a received sample set changes in SP: the sequence expectation and the gap count (R4), the last good angles and the
held-angle count (R5, R7, R8), the sensor fault status, its clean-run count and SENSOR_FAULT to both ports (R9), and the marks
that the set carries: CLIPPED where a clear channel was outside its range (R5), HELD where a θ, φ or ψ was replaced (R7, R8),
GAP after a gap (R4). A set without a usable θ is not accepted, and reaches neither CT nor WE, nor does it restart the
sample-loss timer (R7, R11). No set touches the lines, the ports, the open load, the queue of closed loads or the port text
layer. -/
def Obligations.SampleSetBookkeeping : Prop :=
  ∀ (bits : List Bool) (x : SampleSet) (s : State), s.held = false → s.sp.sampling = .running →
    sampleSetOf bits = some x → ∃ t, exec (.receivedSampleSet bits) s = .next t
      ∧ t.sp.seqExpect = some (x.seq + 1)
      ∧ t.sp.gapCount =
          (if s.sp.seqExpect = none ∨ s.sp.seqExpect = some x.seq then s.sp.gapCount else min 65535 (s.sp.gapCount + 1))
      ∧ (x.faults.getLsbD 2 = false →
          t.sp.lastTheta = some (min 700 (max (-600) x.theta)) ∧ t.sp.heldAngle = 0)
      ∧ (x.faults.getLsbD 2 = true → t.sp.lastTheta = s.sp.lastTheta ∧ t.sp.heldAngle = min 4 (s.sp.heldAngle + 1))
      ∧ t.sp.lastPhi = (if x.faults.getLsbD 3 then s.sp.lastPhi else some (min 900 (max (-900) x.phi)))
      ∧ t.sp.lastPsi = (if x.faults.getLsbD 4 then s.sp.lastPsi else some (min 350 (max (-350) x.psi)))
      ∧ (x.faults &&& 0x1F ≠ 0 → t.sp.sensorFault = true ∧ t.sp.cleanRun = 0
          ∧ (s.sp.sensorFault = false → ∀ p, (t.ex.pending.get p).getLsbD 0 = true))
      ∧ (x.faults &&& 0x1F = 0 → s.sp.sensorFault = true →
          t.sp.cleanRun = min 10 (s.sp.cleanRun + 1) ∧ (t.sp.sensorFault = true ↔ s.sp.cleanRun + 1 < 10))
      ∧ (x.faults &&& 0x1F = 0 → s.sp.sensorFault = false → t.sp.sensorFault = false ∧ t.sp.cleanRun = 0)
      ∧ (t.sp.sampling = s.sp.sampling ∧ t.sp.paceRate = s.sp.paceRate ∧ t.sp.frameErrors = s.sp.frameErrors)
      ∧ (x.faults.getLsbD 2 = true → (3 ≤ s.sp.heldAngle ∨ s.sp.lastTheta = none) →
          t.ct = s.ct ∧ t.we = s.we ∧ t.cu = s.cu ∧ t.lt = s.lt ∧ t.lq = s.lq ∧ t.sd = s.sd
            ∧ t.sp.lossTimer = s.sp.lossTimer ∧ t.sp.liveTheta = s.sp.liveTheta)
      ∧ (x.faults.getLsbD 2 = false ∨ (s.sp.heldAngle < 3 ∧ s.sp.lastTheta ≠ none) →
          t.sp.lossTimer = .started ∧ t.sp.liveTheta = t.sp.lastTheta)
      ∧ s.restKept t ∧ t.lt = { s.lt with held := t.lt.held }
      ∧ t.lq = { s.lq with counters.aborts := t.lq.counters.aborts }
      ∧ ((s.marksOf x).clipped = true ↔
          x.faults.getLsbD 0 = false ∧ 45000 < x.ph ∨ x.faults.getLsbD 1 = false ∧ 45000 < x.pr
            ∨ x.faults.getLsbD 2 = false ∧ (x.theta < -600 ∨ 700 < x.theta)
            ∨ x.faults.getLsbD 3 = false ∧ (x.phi < -900 ∨ 900 < x.phi)
            ∨ x.faults.getLsbD 4 = false ∧ (x.psi < -350 ∨ 350 < x.psi))
      ∧ ((s.marksOf x).held = true ↔
          x.faults.getLsbD 2 = true ∧ s.sp.heldAngle < 3 ∧ s.sp.lastTheta ≠ none ∨ x.faults.getLsbD 3 = true
            ∨ x.faults.getLsbD 4 = true)
      ∧ ((s.marksOf x).gap = true ↔ ∃ e, s.sp.seqExpect = some e ∧ e ≠ x.seq)
      ∧ (∀ theta, s.thetaUsed x = some theta →
          t.sp.liveTheta = some theta ∧ t.sp.livePhi = some (s.phiUsed x) ∧ t.sp.livePsi = some (s.psiUsed x))

/-- The raw force is N_CYL × (Ph × A_HEAD − Pr × A_ROD), absent with a faulted pressure, and within −179,910,000..180,000,000 for
every record that R73 accepts and every clamped pressure (R6, R10). -/
def Obligations.RawForce : Prop :=
  (∀ (w : WeighRec) (x : SampleSet),
      rawForce w x.channels =
        if x.faults.getLsbD 0 || x.faults.getLsbD 1 then none
        else some (w.nCyl * ((min 45000 x.ph : Nat) * w.aHead - (min 45000 x.pr : Nat) * w.aRod)))
    ∧ ∀ (w : WeighRec) (cs : List CycleRec) (x : SampleSet) (f : Int),
        weighFirstBad w cs = none → rawForce w x.channels = some f → -179910000 ≤ f ∧ f ≤ 180000000

/-- SAMPLE_LOSS at its expiry, the tracker not in WEIGHING: SP's effects in full, SENSOR_FAULT to both ports, and CT in
SENSOR_WAIT from a cycle state, unmoved from SENSOR_WAIT or PARKED (R12, R34). In WEIGHING it aborts the weigh too, with cause
SENSOR_LOST, WEIGH_ABORT to both ports and the abort counted (R34, R40); the window is closed and its discarded sums are at 0,
which is the model's reading (log 14). Before the expiry the command does nothing (log 2). -/
def Obligations.SampleLossTaken : Prop :=
  ∀ s : State, s.held = false →
    (s.sp.lossTimer = .counting 25 → s.ct.tracker ≠ .weighing →
      exec .sampleLoss s = .next
        (({ s with
            sp.lossTimer := .stopped, sp.seqExpect := none, sp.lastTheta := none, sp.lastPhi := none, sp.lastPsi := none
            sp.heldAngle := 0, sp.sensorFault := true, sp.cleanRun := 0
            ct :=
              if s.ct.tracker = .low ∨ s.ct.tracker = .lifting ∨ s.ct.tracker = .raised ∨ s.ct.tracker = .dumping
                ∨ s.ct.tracker = .returning then
                { s.ct with
                  tracker := .sensorWait, windowTimer := .stopped, dwellTimer := .stopped, belowStart := false
                  highTheta := none }
              else s.ct } : State).raiseBoth .sensorFault))
      ∧ (s.sp.lossTimer = .counting 25 → s.ct.tracker = .weighing →
          ∃ t, exec .sampleLoss s = .next t ∧ t.ct.tracker = .sensorWait ∧ t.ct.abortCause = some .sensorLost
            ∧ t.we = s.we.discardWindow ∧ t.lt = s.lt ∧ t.lq.counters.aborts = min 65535 (s.lq.counters.aborts + 1)
            ∧ s.restKept t ∧ ∀ p, (t.ex.pending.get p).getLsbD 0 = true ∧ (t.ex.pending.get p).getLsbD 9 = true)
      ∧ ((∀ n, s.sp.lossTimer = .counting n → n < 25) → exec .sampleLoss s = .next s)

/-- The Sample Trace Buffer. TRACE_ARM: a mode above 2 is BAD_PARAM, BUSY while the other port owns a running trace, OFF from the
owner keeps the list, any other arm empties it for the issuer (R13). TRACE_READ: n outside 1..8 is BAD_PARAM, STATE from a port
that is not the owner, else the oldest entries in the layout of Table 11-4, removed from the list, or EMPTY (R16, R183, R185). A
received set appends its entry in RING mode, a full list first dropping its oldest (R14), and in LIFT mode from the set that
brings the tracker into LIFTING until the window's end or a full list, and not in DONE (R15); an append that makes 64 raises
TRACE_HALF to the owner (R16). The entry's fault flag byte is the one received, whole (log 20). -/
def Obligations.TraceBuffer : Prop :=
  ∀ (p : Port) (b : Byte) (s : State),
    (s.ready p →
        (2 < b.toNat → exec (.traceArm p b) s = .next (State.answered p .badParam [0] s))
          ∧ (b.toNat ≤ 2 → s.sp.trace.owner = some (other p) → s.sp.trace.mode ≠ .off →
            exec (.traceArm p b) s = .next (State.answered p .busy [] s))
          ∧ (s.sp.trace.owner ≠ some (other p) ∨ s.sp.trace.mode = .off →
            (b = 0 → s.sp.trace.owner = some p →
                exec (.traceArm p b) s = .next (State.answered p .ok [] { s with sp.trace.mode := .off }))
              ∧ (b = 0 → s.sp.trace.owner ≠ some p →
                exec (.traceArm p b) s = .next (State.answered p .ok [] { s with sp.trace := ⟨[], some p, .off, 0⟩ }))
              ∧ (b = 1 →
                exec (.traceArm p b) s = .next (State.answered p .ok [] { s with sp.trace := ⟨[], some p, .ring, 0⟩ }))
              ∧ (b = 2 → exec (.traceArm p b) s =
                .next (State.answered p .ok [] { s with sp.trace := ⟨[], some p, .lift .waiting, 0⟩ })))
          ∧ (b.toNat < 1 ∨ 8 < b.toNat → exec (.traceRead p b) s = .next (State.answered p .badParam [0] s))
          ∧ (1 ≤ b.toNat → b.toNat ≤ 8 → s.sp.trace.owner ≠ some p →
            exec (.traceRead p b) s = .next (State.answered p .state [] s))
          ∧ (1 ≤ b.toNat → b.toNat ≤ 8 → s.sp.trace.owner = some p →
            exec (.traceRead p b) s = .next (State.answered p (if s.sp.trace.entries = [] then .empty else .ok)
              ([BitVec.ofNat 8 (s.sp.trace.entries.take b.toNat).length, BitVec.ofNat 8 s.sp.trace.drops,
                  s.sp.trace.mode.code]
                ++ (match s.sp.trace.mode with
                  | .lift ph => [1, ph.code]
                  | _ => [0, 0])
                ++ (s.sp.trace.entries.take b.toNat).flatMap TraceEntry.bytes)
              { s with sp.trace.entries := s.sp.trace.entries.drop b.toNat })))
      ∧ (∀ e : TraceEntry, e.bytes.length = 21 ∧ ∃ marks : Byte,
        e.bytes = [e.seq, e.faults] ++ optField 2 u16 e.ph ++ optField 2 u16 e.pr ++ i16 (e.theta.getD 0) ++ i16 e.phi
            ++ i16 e.psi ++ [marks] ++ optField 4 i32 e.fRaw ++ [e.tracker.code]
          ∧ ∀ k, marks.getLsbD k =
            match k with
            | 0 => e.marks.clipped
            | 1 => e.marks.held
            | 2 => e.marks.gap
            | 3 => decide (e.theta = none)
            | _ => false)
      ∧ ∀ (bits : List Bool) (x : SampleSet), s.held = false → s.sp.sampling = .running → sampleSetOf bits = some x →
        ∃ t e, exec (.receivedSampleSet bits) s = .next t ∧ s.recorded x t.ct.tracker e
          ∧ (s.sp.trace.mode = .ring → t.sp.trace = { s.sp.trace with
              entries := (if s.sp.trace.entries.length < 128 then s.sp.trace.entries else s.sp.trace.entries.tail) ++ [e]
              drops := if s.sp.trace.entries.length < 128 then s.sp.trace.drops else min 255 (s.sp.trace.drops + 1) })
          ∧ (s.sp.trace.mode = .lift .waiting → s.sp.trace.entries = [] →
            t.sp.trace =
              if t.ct.tracker = .lifting ∧ s.ct.tracker ≠ .lifting then
                { s.sp.trace with entries := [e], mode := .lift .recording }
              else s.sp.trace)
          ∧ (s.sp.trace.mode = .lift .recording → s.sp.trace.entries.length < 128 →
            t.sp.trace = { s.sp.trace with
              entries := s.sp.trace.entries ++ [e]
              mode := .lift (if s.ct.tracker = .weighing ∧ t.ct.tracker ≠ .weighing ∨ s.sp.trace.entries.length = 127 then
                .done else .recording) })
          ∧ (s.sp.trace.mode = .off ∨ s.sp.trace.mode = .lift .done → t.sp.trace = s.sp.trace)
          ∧ (s.sp.trace.mode = .ring ∨ s.sp.trace.mode = .lift .recording → s.sp.trace.entries.length = 63 →
            s.sp.trace.owner = some p → (t.ex.pending.get p).getLsbD 14 = true)

/-! ### Cycle Tracker and Weigh Engine -/

/-- An accepted sample in LOW and in LIFTING. In LOW a sample with θ ≥ θLOW enters LIFTING, sets the below-start memory and empties
the filter history before its own force is filtered (R37, R53). In LIFTING, in this order: below θLOW − HYST it enters LOW, with
LOW entry's pending records; with θ ≥ θSTART and the below-start memory set it enters WEIGHING, the window timer started, the
highest θ the sample's, the window open and the sample taken into it, an armed calibration in its lift state; else it stays, and
sets the memory below θSTART (R38, R39, R49, R54, R83). A sample exactly at θLOW − HYST stays, which is the model's choice between
two wordings of R38 (log 28). Every sample is filtered under the FILTER that it found (R52, log 26). -/
def Obligations.LiftEntries : Prop :=
  ∀ (bits : List Bool) (x : SampleSet) (theta : Int) (s : State), goodSample bits x theta s →
    s.ct.tracker = .low ∨ s.ct.tracker = .lifting →
    let f := rawForce s.we.weigh x.channels
    let fallen := theta < s.ct.cycle.thetaLow - s.ct.cycle.hyst
    let opened : We := { s.we with
      windowOpen := true, gross := Eight.fill 0, counts := Eight.fill 0, samples := 0, pitchSum := 0
      marks := ⟨false, false, false⟩ }
    ∃ t, exec (.receivedSampleSet bits) s = .next t ∧ t.lt = s.lt ∧ t.lq = s.lq
      ∧ (s.ct.tracker = .low → s.ct.cycle.thetaLow ≤ theta →
        t.ct = { s.ct with tracker := .lifting, belowStart := true } ∧ t.cu = s.cu
          ∧ We.filtered f { s.we with history := [] } t.we
          ∧ t.we = { s.we with history := t.we.history, latestF := t.we.latestF })
      ∧ (s.ct.tracker = .low → theta < s.ct.cycle.thetaLow →
        t.ct = s.ct ∧ t.cu = s.cu ∧ s.we.filtered f t.we
          ∧ t.we = { s.we with history := t.we.history, latestF := t.we.latestF })
      ∧ (s.ct.tracker = .lifting → fallen →
        t.ct = s.ct.lowEntered ∧ s.lowEntryTaken t ∧ s.we.filtered f t.we)
      ∧ (s.ct.tracker = .lifting → ¬fallen → s.ct.belowStart = true → s.we.weigh.thetaStart ≤ theta →
        t.ct = { s.ct with tracker := .weighing, belowStart := false, highTheta := some theta, windowTimer := .started }
          ∧ s.windowTaken x theta opened t.we
          ∧ t.cu = { s.cu with
              cal := match s.cu.cal with
                | .tareArmed => .tareLift
                | .loadedArmed => .loadedLift
                | .zeroArmed => .zeroLift
                | c => c })
      ∧ (s.ct.tracker = .lifting → ¬fallen → s.ct.belowStart = false ∨ theta < s.we.weigh.thetaStart →
        t.ct = { s.ct with belowStart := if theta < s.we.weigh.thetaStart then true else s.ct.belowStart }
          ∧ t.cu = s.cu ∧ s.we.filtered f t.we
          ∧ t.we = { s.we with history := t.we.history, latestF := t.we.latestF })

/-- A sample in WEIGHING that is below θEND and more than HYST below the highest θ aborts the weigh with cause LOWERED: LIFTING,
with the below-start memory set exactly if the sample is below θSTART; the window's sums are discarded, which leaves them at 0
(log 14), the sample filtered, the held pass and the load untouched, WEIGH_ABORT raised to both ports, the abort counted, and a
calibration lift back in its armed state (R40, R42, R52, R71, R84, R130). -/
def Obligations.LoweredAborts : Prop :=
  ∀ (bits : List Bool) (x : SampleSet) (theta high : Int) (s : State), goodSample bits x theta s →
    s.ct.tracker = .weighing → s.ct.highTheta = some high → theta < s.we.weigh.thetaEnd →
    theta < high - s.ct.cycle.hyst →
      ∃ t, exec (.receivedSampleSet bits) s = .next t
        ∧ t.ct = { s.ct with
            tracker := .lifting, belowStart := decide (theta < s.we.weigh.thetaStart), highTheta := none
            windowTimer := .stopped, abortCause := some .lowered }
        ∧ t.we.windowOpen = false ∧ t.we.samples = 0 ∧ (∀ b, t.we.gross.get b = 0 ∧ t.we.counts.get b = 0)
        ∧ s.we.filtered (rawForce s.we.weigh x.channels) t.we
        ∧ t.lt = s.lt ∧ t.lq = { s.lq with counters.aborts := min 65535 (s.lq.counters.aborts + 1) }
        ∧ t.cu = { s.cu with
            cal := match s.cu.cal with
              | .tareLift => .tareArmed
              | .loadedLift => .loadedArmed
              | .zeroLift => .zeroArmed
              | c => c }
        ∧ ∀ p, (t.ex.pending.get p).getLsbD 9 = true

/-- A sample at θEND or above in WEIGHING completes the window. With a qualifying bin and no calibration running it gives the held
pass of R61 to R69, a re-weigh of an earlier held pass under R97; the tracker is in RAISED, and the open load and the table
are unchanged. With no qualifying bin it is an abort with cause NO_DATA and the tracker still in RAISED (R41, R61). -/
def Obligations.WindowGivesPass : Prop :=
  ∀ (bits : List Bool) (x : SampleSet) (theta : Int) (s : State), goodSample bits x theta s →
    s.ct.tracker = .weighing → s.we.weigh.thetaEnd ≤ theta →
    let q := (eightIndices.filter fun b => decide (s.we.weigh.minS ≤ s.we.counts.get b)).length
    (1 ≤ q → s.cu.cal = .idle →
      ∃ t pass, exec (.receivedSampleSet bits) s = .next t
        ∧ t.ct = { s.ct with tracker := .raised, windowTimer := .stopped, highTheta := none }
        ∧ s.we.filtered (rawForce s.we.weigh x.channels) t.we
        ∧ t.we.windowOpen = false ∧ t.cu = s.cu ∧ t.lq = s.lq ∧ t.lt = { s.lt with held := some pass }
        ∧ pass.binsUsed = q ∧ pass.meanPitch = roundDiv s.we.pitchSum s.we.samples
        ∧ pass.mass = (if s.cu.table = .valid then some (passMass s.cu s.we) else none)
        ∧ pass.flags =
            { short := decide (q < s.we.weigh.minB), gapped := s.we.marks.gapped, clipped := s.we.marks.clipped
              slope := s.we.marks.slope
              range := decide (s.cu.table = .valid) && decide (passMass s.cu s.we ≠ trimmedMass s.cu s.we)
              uncal := decide (s.cu.table ≠ .valid), reweighed := s.lt.held.isSome, tipped := false }
        ∧ pass.reweighs = (match s.lt.held with
            | none => 0
            | some old => min 15 (old.reweighs + 1)))
      ∧ (q = 0 →
          ∃ t, exec (.receivedSampleSet bits) s = .next t
            ∧ t.ct = { s.ct with
                tracker := .raised, windowTimer := .stopped, highTheta := none, belowStart := false
                abortCause := some .noData }
            ∧ t.we.windowOpen = false ∧ t.lt = s.lt
            ∧ t.lq = { s.lq with counters.aborts := min 65535 (s.lq.counters.aborts + 1) }
            ∧ ∀ p, (t.ex.pending.get p).getLsbD 9 = true)

/-- An accepted sample outside the lift. In SENSOR_WAIT, and in PARKED with PARK inactive, it takes up the boom: LOW below θSTART
− HYST, else RAISED; in PARKED with PARK active it moves nothing (R35). In RAISED and RETURNING it puts CT in LOW below θSTART
− HYST, else the dwell timer follows the dump condition, with the φ that SP hands on (R44, R45, R48). In DUMPING it puts CT in
RETURNING when the bucket is back or the boom has left the dumping height (R47). LOW entry brings the pending CYCLE and WEIGH
records into force, the WEIGH record with what its geometry does to CU (R49, R75, R93); the sample itself is filtered under the
FILTER that it found (R52, R74, log 26). -/
def Obligations.CarriedSamples : Prop :=
  ∀ (bits : List Bool) (x : SampleSet) (theta phi : Int) (s : State), goodSample bits x theta s → phi = s.phiUsed x →
    s.ct.tracker = .sensorWait ∨ s.ct.tracker = .parked ∨ s.ct.tracker = .raised ∨ s.ct.tracker = .returning
      ∨ s.ct.tracker = .dumping →
    let again := theta < s.we.weigh.thetaStart - s.ct.cycle.hyst
    let tipped := s.ct.dumpConfigured = true ∧ s.ct.dumpSwitch = true
    ∃ t, exec (.receivedSampleSet bits) s = .next t
      ∧ (s.ct.tracker = .sensorWait ∨ s.ct.tracker = .parked ∧ s.ct.park = false →
        t.ct = (if again then s.ct.lowEntered else { s.ct with tracker := .raised, belowStart := false }))
      ∧ (s.ct.tracker = .parked → s.ct.park = true → t.ct = s.ct)
      ∧ (s.ct.tracker = .raised ∨ s.ct.tracker = .returning → again → t.ct = s.ct.lowEntered)
      ∧ (s.ct.tracker = .raised ∨ s.ct.tracker = .returning → ¬again →
        t.ct = { s.ct with
          dwellTimer :=
            if s.ct.cycle.thetaDump ≤ theta ∧ (phi ≤ s.ct.cycle.phiDump ∨ tipped) then
              (if s.ct.dwellTimer = .stopped then .started else s.ct.dwellTimer)
            else .stopped })
      ∧ (s.ct.tracker = .dumping →
        t.ct = { s.ct with
          tracker :=
            if s.ct.cycle.phiDump + s.ct.cycle.hyst ≤ phi ∧ ¬tipped ∨ theta < s.ct.cycle.thetaDump - s.ct.cycle.hyst then
              .returning
            else .dumping })
      ∧ (t.ct.tracker = .low → s.lowEntryTaken t)
      ∧ (t.ct.tracker ≠ .low →
        t.cu = s.cu ∧ t.sd = s.sd ∧ t.we = { s.we with history := t.we.history, latestF := t.we.latestF })
      ∧ s.we.filtered (rawForce s.we.weigh x.channels) t.we ∧ t.lt = s.lt ∧ t.lq = s.lq ∧ t.lm = s.lm

/-- The bin of an angle in the window is floor((θ − θSTART) × 8 / (θEND − θSTART)), in 0..7, and no other angle has a bin (R56). An
accepted sample that stays in WEIGHING, below θEND and at most HYST below the highest θ, raises the highest θ or keeps it, and
is taken into the window: filtered, its marks and pitch taken, its F_f added to its bin (R42, R52, R55 to R60). -/
def Obligations.BinOfAngle : Prop :=
  (∀ (w : WeighRec) (theta : Int), w.thetaStart + 80 ≤ w.thetaEnd →
      (w.thetaStart ≤ theta ∧ theta < w.thetaEnd →
        ∃ b, w.bin theta = some b
          ∧ (b.val : Int) * (w.thetaEnd - w.thetaStart) ≤ (theta - w.thetaStart) * 8
          ∧ (theta - w.thetaStart) * 8 < (b.val + 1) * (w.thetaEnd - w.thetaStart))
        ∧ (¬(w.thetaStart ≤ theta ∧ theta < w.thetaEnd) → w.bin theta = none))
    ∧ ∀ (bits : List Bool) (x : SampleSet) (theta high : Int) (s : State), goodSample bits x theta s →
      s.ct.tracker = .weighing → s.ct.highTheta = some high → theta < s.we.weigh.thetaEnd →
      max high theta - s.ct.cycle.hyst ≤ theta →
        ∃ t, exec (.receivedSampleSet bits) s = .next t
          ∧ t.ct = { s.ct with highTheta := some (max high theta) }
          ∧ s.windowTaken x theta s.we t.we
          ∧ t.cu = s.cu ∧ t.lt = s.lt ∧ t.lq = s.lq ∧ t.sd = s.sd

/-- The pass mass: rounding to nearest with a half away from zero; the bin masses of the qualifying bins, from their sums less the
tare, against the span and MREF; their rounded mean; the pitch correction by the clamped mean pitch; the zero trim; the clamp
to −5,000..65,000 (00 0.4.4, R61 to R66). -/
def Obligations.PassMass : Prop :=
  (∀ n d : Int, 0 < d →
      2 * |roundDiv n d * d - n| ≤ d ∧ (2 * |roundDiv n d * d - n| = d → |n| < |roundDiv n d| * d))
    ∧ ∀ (c : Cu) (w : We) (mref : Nat) (m : Fin 8 → Int) (m0 m1 psi : Int), c.mref = some mref →
      let taken : Finset (Fin 8) := Finset.univ.filter fun b => w.weigh.minS ≤ w.counts.get b
      let n : Fin 8 → Int := fun b => w.counts.get b
      (∀ b, m b = roundDiv ((w.gross.get b - n b * c.tare.get b) * mref) (n b * (c.loaded.get b - c.tare.get b))) →
      m0 = roundDiv (taken.sum m) taken.card →
      psi = min w.weigh.pitchLimit (max (-w.weigh.pitchLimit) (roundDiv w.pitchSum w.samples)) → 0 ≤ w.weigh.pitchLimit →
      m1 = roundDiv (m0 * (100000 + w.weigh.kp * psi)) 100000 →
        correctedMass c w = m1 ∧ passMass c w = min 65000 (max (-5000) (m1 - w.zt))

/-- The credited mass: the larger of the mass and 0, 0 for an absent mass, within 0..65,000 for every weighed pass; and it is what
the load's total rises by when LT credits the pass (R67). -/
def Obligations.CreditedMass : Prop :=
  (∀ m : Int, (creditedMass (some m) : Int) = max m 0) ∧ creditedMass none = 0
    ∧ (∀ (c : Cu) (w : We), creditedMass (weighedPass c w).mass ≤ 65000)
    ∧ ∀ (x : Pass) (s : State), s.lt.held = some x → s.lt.load.passes.length < 12 → s.lt.settings.autoClose = false →
        s.credit.lt.load.total = s.lt.load.total + creditedMass x.mass

/-- The window timer at WTMAX aborts the weigh with cause TIMEOUT: LIFTING, below-start memory clear, the effects of R40 with the
advisory WEIGH ABORTED, a recording in LIFT mode ended, the filter kept, nothing else (R40, R43, R53). The discarded sums are at
0, which is the model's reading (log 14). Before that the command does nothing (log 2). -/
def Obligations.WindowTimeout : Prop :=
  ∀ s : State, s.held = false →
    (s.ct.windowTimer = .counting (s.we.weigh.wtMax * 10) → s.ct.tracker = .weighing →
      ∃ t, exec .windowTimerExpiry s = .next t ∧ s.weighAborted t
        ∧ t.ct = { s.ct with
            tracker := .lifting, belowStart := false, highTheta := none, windowTimer := .stopped
            abortCause := some .timeout }
        ∧ t.sp = { s.sp with
            trace.mode := if s.sp.trace.mode = .lift .recording then .lift .done else s.sp.trace.mode }
        ∧ t.sd.advisories = withAdvisory .weighAborted s.sd.advisories
        ∧ s.restKept t)
      ∧ ((∀ n, s.ct.windowTimer = .counting n → n < s.we.weigh.wtMax * 10) → exec .windowTimerExpiry s = .next s)

/-- The dwell timer at DUMP_DWELL. In RETURNING it is a shake: DUMPING, nothing counted. In RAISED with a calibration running it
is DUMPING with the cycle reference restarted and nothing counted. In RAISED otherwise one cycle and its time in whole 0.1 s
are counted as well; with no pass held that is all (R44, R46, R48, R128). The cycle reference restarts on the expiry's own tick
boundary (log 4). Before the expiry the command does nothing (log 2). -/
def Obligations.DwellExpiry : Prop :=
  ∀ (s : State) (ticks : Nat), s.held = false → s.ct.cycleRef = .counting ticks →
    (s.ct.dwellTimer = .counting (s.ct.cycle.dumpDwell / 10) → s.ct.tracker = .returning →
        exec .dwellTimerExpiry s = .next { s with ct.tracker := .dumping, ct.dwellTimer := .stopped })
      ∧ (s.ct.dwellTimer = .counting (s.ct.cycle.dumpDwell / 10) → s.ct.tracker = .raised → s.cu.cal ≠ .idle →
        exec .dwellTimerExpiry s =
          .next { s with ct.tracker := .dumping, ct.dwellTimer := .stopped, ct.cycleRef := .counting 0 })
      ∧ (s.ct.dwellTimer = .counting (s.ct.cycle.dumpDwell / 10) → s.ct.tracker = .raised → s.cu.cal = .idle →
        s.lt.held = none →
        exec .dwellTimerExpiry s =
          .next { s with
            ct.tracker := .dumping, ct.dwellTimer := .stopped, ct.cycleRef := .counting 0
            ct.latestCycle := some (min 65535 (ticks / 10))
            lq.counters.cycles := min 65535 (s.lq.counters.cycles + 1)
            lq.counters.cycleTimeSum := min 4294967295 (s.lq.counters.cycleTimeSum + min 65535 (ticks / 10)) })
      ∧ ((∀ n, s.ct.dwellTimer = .counting n → n < s.ct.cycle.dumpDwell / 10) → exec .dwellTimerExpiry s = .next s)

/-- A dump entry with a pass held and AUTO_CLOSE OFF credits the pass: the new entry with its number and credited mass, the total,
the load state of R102, no pass held, the counters, PASS_CREDITED to both ports; the first pass starts the load's duration, on
the expiry's own tick boundary (log 4). A load of 12 passes is closed first, with cause PASS_LIMIT, and the pass is the first of
the next load (R100, R101, R104, R129). -/
def Obligations.DumpCreditsPass : Prop :=
  ∀ (s : State) (x : Pass), s.held = false → s.ct.tracker = .raised →
    s.ct.dwellTimer = .counting (s.ct.cycle.dumpDwell / 10) → s.cu.cal = .idle → s.lt.held = some x →
    s.lt.settings.autoClose = false →
      ∃ t, exec .dwellTimerExpiry s = .next t ∧ t.lt.held = none ∧ t.ct.tracker = .dumping ∧ t.cu = s.cu ∧ t.we = s.we
        ∧ t.lq.counters.credited = min 65535 (s.lq.counters.credited + 1)
        ∧ t.lq.counters.cycles = min 65535 (s.lq.counters.cycles + 1)
        ∧ (∀ p, (t.ex.pending.get p).getLsbD 8 = true)
        ∧ t.lt.load.state = loadStateOf t.lt.settings t.lt.load ∧ t.lt.settings = s.lt.settings
        ∧ t.lt.materials = s.lt.materials ∧ t.sp = s.sp ∧ s.restKept t
        ∧ (s.lt.load.passes.length < 12 →
            t.lt.load = { s.lt.load with
                passes := s.lt.load.passes
                  ++ [⟨s.lt.load.passes.length + 1, x.mass, x.flags, (max (x.mass.getD 0) 0).toNat⟩]
                total := s.lt.load.total + (max (x.mass.getD 0) 0).toNat, state := t.lt.load.state }
              ∧ t.lt.durationTimer = (if s.lt.load.passes = [] then .counting 0 else s.lt.durationTimer)
              ∧ t.lq.queue = s.lq.queue ∧ t.lt.nextNumber = s.lt.nextNumber)
        ∧ (12 ≤ s.lt.load.passes.length →
            t.lt.load.number = s.lt.nextNumber
              ∧ t.lt.load.passes = [⟨1, x.mass, x.flags, (max (x.mass.getD 0) 0).toNat⟩]
              ∧ t.lt.load.total = (max (x.mass.getD 0) 0).toNat ∧ t.lt.durationTimer = .counting 0
              ∧ t.lt.load.duration = 0
              ∧ ∃ c, t.lq.queue.getLast? = some c ∧ c.load = s.lt.load ∧ c.cause = .passLimit)

/-- A credit that leaves the load in TARGET or OVER closes it when AUTO_CLOSE is ON_TARGET, with cause TARGET; in FILLING it stays
open (R105). A credit that enters TARGET or OVER raises that notice to both ports (R103). -/
def Obligations.AutoClose : Prop :=
  ∀ (s : State) (x : Pass), s.lt.held = some x → s.lt.load.passes.length < 12 →
    let l : Load := { s.lt.load with
      passes := s.lt.load.passes ++ [⟨s.lt.load.passes.length + 1, x.mass, x.flags, creditedMass x.mass⟩]
      total := s.lt.load.total + creditedMass x.mass }
    (loadStateOf s.lt.settings l = .target ∨ loadStateOf s.lt.settings l = .over → s.lt.settings.autoClose = true →
        s.credit.lt.load.passes = [] ∧ s.credit.lt.load.number = s.lt.nextNumber
          ∧ ∃ c, s.credit.lq.queue.getLast? = some c ∧ c.load = { l with state := loadStateOf s.lt.settings l }
            ∧ c.cause = .target)
      ∧ (loadStateOf s.lt.settings l = .filling ∨ s.lt.settings.autoClose = false →
        s.credit.lt.load = { l with state := loadStateOf s.lt.settings l } ∧ s.credit.lq.queue = s.lq.queue)
      ∧ (loadStateOf s.lt.settings l = .target → s.lt.load.state ≠ .target →
        ∀ p, (s.credit.ex.pending.get p).getLsbD 6 = true)
      ∧ (loadStateOf s.lt.settings l = .over → s.lt.load.state ≠ .over →
        ∀ p, (s.credit.ex.pending.get p).getLsbD 7 = true)

/-! ### Timers and machine lines -/

/-- A timer counts whole ticks from the first tick boundary after the event that started it, and is due at the boundary at which
that count reaches its period; a timer that device reset starts counts from its release; a stopped timer is never due (00
0.4.3). It stays due until its expiry is taken, which is the model's choice (log 3). The pacing pulse while RUNNING, and the
whole seconds of the open load and of the shift, each at its own expiry, from whose tick boundary the next one counts (log 4);
the pulse counter and the pacing at 200 are the model's choice (log 11); before the expiry each command does nothing (log 2). -/
def Obligations.TimersAndTicks : Prop :=
  (∀ period k : Nat,
      (((Timer.tick period)^[k] .started).due period = true ↔ period + 1 ≤ k)
        ∧ (((Timer.tick period)^[k] (.counting 0)).due period = true ↔ period ≤ k)
        ∧ ((Timer.tick period)^[k] .stopped).due period = false)
    ∧ (∀ s : State, s.held = false →
        (s.sp.sampling = .running →
            (s.sp.paceRate = .hz50 ∧ s.sp.pacer = .counting 2 ∨ s.sp.paceRate = .hz100 ∧ s.sp.pacer = .counting 1
              ∨ s.sp.paceRate = .hz200 ∧ s.sp.pacer ≠ .stopped) →
            exec .pacePulse s =
              .next { s with sp.pace := true, sp.pacePulses := s.sp.pacePulses + 1, sp.pacer := .counting 0 })
          ∧ (s.sp.sampling = .stopped ∨ s.sp.paceRate = .off → exec .pacePulse s = .next s)
          ∧ (s.sp.paceRate = .hz50 ∧ (∀ n, s.sp.pacer = .counting n → n < 2)
              ∨ s.sp.paceRate = .hz100 ∧ (∀ n, s.sp.pacer = .counting n → n < 1)
              ∨ s.sp.paceRate = .hz200 ∧ s.sp.pacer = .stopped → exec .pacePulse s = .next s)
          ∧ (s.lt.durationTimer = .counting 100 →
            exec .loadDurationTick s =
              .next { s with lt.load.duration := min 65535 (s.lt.load.duration + 1), lt.durationTimer := .counting 0 })
          ∧ ((∀ n, s.lt.durationTimer = .counting n → n < 100) → exec .loadDurationTick s = .next s)
          ∧ (s.lq.shiftTimer = .counting 100 →
            exec .shiftDurationTick s =
              .next { s with lq.counters.duration := min 65535 (s.lq.counters.duration + 1), lq.shiftTimer := .counting 0 })
          ∧ ((∀ n, s.lq.shiftTimer = .counting n → n < 100) → exec .shiftDurationTick s = .next s))

/-- A 10 ms tick. After the first one: the raw levels are those sampled; a difference count is 0 where raw and debounced agree and
one more otherwise; debounced levels, functions and watches are as before, and a line update is due exactly if a count has
reached its limit (R18; that the update is a command of its own is the model's choice, log 6); every running timer meets the
tick boundary, and nothing else changes (00 0.4.3; that this command is the tick of every timer, and that a count which has
reached its period stands there until its expiry is taken, is the model's choice, log 3), but that PACE is low from the tick on,
which is the model's choice (log 11).
The first tick after device reset: raw and debounced levels are those sampled, every difference count is 0, no line update is
due, no watch event and no function event is raised, and the level functions follow at once, each change handed to its receiver:
PARK, and the level and configured status of DUMP_SWITCH as one, to CT, and LIGHTS to SD (R19, R22). -/
def Obligations.LineTicks : Prop :=
  (∀ (levels : BitVec 8) (s : State), s.held = false → s.lm.firstTick = true →
      ∃ t, exec (.lineSampleTick levels) s = .next t
        ∧ t.lm = { s.lm with raw := levels, diff := t.lm.diff, updateDue := t.lm.updateDue }
        ∧ (∀ k, t.lm.diff.get k =
            if levels.getLsbD k.val = s.lm.debounced.getLsbD k.val then 0 else min 25 (s.lm.diff.get k + 1))
        ∧ (t.lm.updateDue = true ↔ ∃ k, t.lineTurns k)
        ∧ t.sp = { s.sp with
            lossTimer := s.sp.lossTimer.tick 25, pace := false
            pacer := s.sp.pacer.tick (match s.sp.paceRate with
              | .hz50 => 2
              | .hz100 => 1
              | _ => 0) }
        ∧ t.ct = { s.ct with
            windowTimer := s.ct.windowTimer.tick (s.we.weigh.wtMax * 10)
            dwellTimer := s.ct.dwellTimer.tick (s.ct.cycle.dumpDwell / 10)
            cycleRef := s.ct.cycleRef.tick 655350 }
        ∧ t.lt = { s.lt with durationTimer := s.lt.durationTimer.tick 100 }
        ∧ t.lq = { s.lq with shiftTimer := s.lq.shiftTimer.tick 100 }
        ∧ t.sd = { s.sd with
            refreshTimer := s.sd.refreshTimer.tick (s.sd.refreshPeriod / 10), blinkTimer := s.sd.blinkTimer.tick 25
            holdTimer := s.sd.holdTimer.tick (s.sd.holdTime * 10) }
        ∧ t.ex = { s.ex with holdTimer := s.ex.holdTimer.tick 2000 }
        ∧ t.we = s.we ∧ t.cu = s.cu ∧ t.ports = s.ports)
    ∧ (∀ (levels : BitVec 8) (s : State), s.held = false → s.lm.firstTick = false →
        ∃ t, exec (.lineSampleTick levels) s = .next t
          ∧ (t.lm.raw = levels ∧ t.lm.debounced = levels ∧ (∀ k, t.lm.diff.get k = 0) ∧ t.lm.firstTick = true
            ∧ t.lm.updateDue = false ∧ t.lm.watch = s.lm.watch ∧ t.lm.settings = s.lm.settings)
          ∧ (t.lm.levels.park = true ↔ t.fnActive .park) ∧ (t.lm.levels.dumpSwitch = true ↔ t.fnActive .dumpSwitch)
          ∧ (t.lm.levels.lights = true ↔ t.fnActive .lights)
          ∧ (t.ct.park = if t.lm.levels.park = s.lm.levels.park then s.ct.park else t.lm.levels.park)
          ∧ (t.lm.levels.dumpConfigured = true ↔ ∃ k, s.lm.settings.funcs.get k = .dumpSwitch)
          ∧ (t.lm.levels.dumpSwitch = s.lm.levels.dumpSwitch ∧ t.lm.levels.dumpConfigured = s.lm.levels.dumpConfigured →
            t.ct.dumpSwitch = s.ct.dumpSwitch ∧ t.ct.dumpConfigured = s.ct.dumpConfigured)
          ∧ (t.lm.levels.dumpSwitch ≠ s.lm.levels.dumpSwitch ∨ t.lm.levels.dumpConfigured ≠ s.lm.levels.dumpConfigured →
            t.ct.dumpSwitch = t.lm.levels.dumpSwitch ∧ t.ct.dumpConfigured = t.lm.levels.dumpConfigured)
          ∧ (t.sd.lights = if t.lm.levels.lights = s.lm.levels.lights then s.sd.lights else t.lm.levels.lights)
          ∧ t.lt.held = s.lt.held ∧ t.lt.load = s.lt.load ∧ t.lq.queue = s.lq.queue
          ∧ t.ex.slots = s.ex.slots ∧ t.ex.storeOrder = s.ex.storeOrder ∧ t.ex.enable = s.ex.enable ∧ t.ports = s.ports)

/-- A line update: exactly the lines whose difference count is at its limit take their raw level, with their count back at 0; the
level functions follow; each watch is evaluated once on the levels before and after, and LINE_WATCH is pending at the port of
a watch that raised an event (R18, R22, R27, R28). An update that is not due does nothing (log 2). The limit is that of the
debounce times in force at the update, which is the model's choice between two sentences of R25 (log 27); so an update may be
due with no line to turn, after a LINES write that came between, and then nothing but the model's own mark that an update is
due changes (log 6, log 27). Of two function events of one update either may be taken first (R23); which one is a free value of the model
(log 7). -/
def Obligations.LinesInOneUpdate : Prop :=
  (∀ s : State, s.held = false →
      (s.lm.updateDue = false → exec .lineUpdate s = .next s)
        ∧ ((∀ k, ¬s.lineTurns k) → exec .lineUpdate s = .next { s with lm.updateDue := false })
        ∧ (s.lm.updateDue = true → (∃ k, s.lineTurns k) → ∃ t, exec .lineUpdate s = .next t
            ∧ t.lm.raw = s.lm.raw ∧ t.lm.settings = s.lm.settings ∧ t.lm.updateDue = false
            ∧ (∀ k, (s.lineTurns k → t.lm.debounced.getLsbD k.val = s.lm.raw.getLsbD k.val ∧ t.lm.diff.get k = 0)
                ∧ (¬s.lineTurns k →
                  t.lm.debounced.getLsbD k.val = s.lm.debounced.getLsbD k.val ∧ t.lm.diff.get k = s.lm.diff.get k))
            ∧ (t.lm.levels.park = true ↔ t.fnActive .park) ∧ (t.lm.levels.dumpSwitch = true ↔ t.fnActive .dumpSwitch)
            ∧ (t.lm.levels.lights = true ↔ t.fnActive .lights)
            ∧ (∀ p, (s.lm.watch.get p).follows (t.lm.watch.get p) s.lm.active t.lm.active)
            ∧ (∀ p, (s.lm.watch.get p).eventRaised s.lm.active t.lm.active → (t.ex.pending.get p).getLsbD 13 = true)
            ∧ t.ports = s.ports ∧ t.sp = { s.sp with trace.mode := t.sp.trace.mode }
            ∧ t.ex = { s.ex with slots := t.ex.slots, pending := t.ex.pending }
            ∧ t.sd = { s.sd with
                advisories := t.sd.advisories, holdTimer := t.sd.holdTimer, holdTime := t.sd.holdTime, lights := t.sd.lights }
            ∧ t.we.weigh = s.we.weigh ∧ t.we.zt = s.we.zt ∧ t.cu = { s.cu with cal := t.cu.cal }))
    ∧ (∀ (e f : LineEvent) (s : State),
        State.takeEvents 2 [e, f] s = (({ s with choices := s.choices + 1 }).takeEvent e).takeEvent f
          ∨ State.takeEvents 2 [e, f] s = (({ s with choices := s.choices + 1 }).takeEvent f).takeEvent e)

/-- One line with an active edge, nothing else turning, by the line's function: TIP_OFF marks the held pass, DISCARD drops it,
UNDO removes the newest pass of the open load, NEXT_TRUCK closes a load that has a pass, ACK_MSG acknowledges the message on
display; PARK parks the tracker from a cycle state or SENSOR_WAIT, aborting a weigh, whose discarded sums are at 0 (log 14); a
change of DUMP_SWITCH is judged with the angles of the latest accepted sample; the other functions do nothing to the tally. One
line with a release edge: a level function becomes inactive if no other line of its set is active, PARK moving nothing and
DUMP_SWITCH judged as before, and an edge function does nothing (R22, R23, R33, R44, R47, R98, R99, R106, R107, R163). -/
def Obligations.ButtonPress : Prop :=
  (∀ (k : Fin 8) (s : State), s.pressed k → s.linesSound → ∃ t, exec .lineUpdate s = .next t ∧
      match s.lm.settings.funcs.get k with
      | .tipOff =>
        t.lt = { s.lt with held := s.lt.held.map fun x => { x with flags := { x.flags with tipped := true } } }
          ∧ t.lq = s.lq ∧ t.ct = s.ct ∧ t.we = s.we ∧ t.cu = s.cu
          ∧ t.sd.advisories =
              (if s.lt.held = none then s.sd.advisories else withAdvisory .reWeigh s.sd.advisories)
      | .discard =>
        t.lt = { s.lt with held := none }
          ∧ t.lq = (if s.lt.held = none then s.lq
              else { s.lq with counters.discarded := min 65535 (s.lq.counters.discarded + 1) })
          ∧ t.ct = s.ct ∧ t.we = s.we ∧ t.cu = s.cu ∧ t.sd = s.sd
      | .undo =>
        (s.lt.load.passes = [] → t.lt = s.lt ∧ t.lq = s.lq)
          ∧ (∀ rest e, s.lt.load.passes = rest ++ [e] →
            t.lt.load = { s.lt.load with
                passes := rest, total := s.lt.load.total - e.credited
                duration := if rest = [] then 0 else s.lt.load.duration
                state := t.lt.load.state }
              ∧ t.lt.load.state = loadStateOf s.lt.settings t.lt.load ∧ t.lt.held = s.lt.held
              ∧ t.lt.durationTimer = (if rest = [] then .stopped else s.lt.durationTimer)
              ∧ t.lq = { s.lq with counters.undone := min 65535 (s.lq.counters.undone + 1) })
          ∧ t.ct = s.ct ∧ t.we = s.we ∧ t.cu = s.cu ∧ t.sd = s.sd
      | .nextTruck =>
        (s.lt.load.passes = [] → t.lt = s.lt ∧ t.lq = s.lq ∧ t.sd = s.sd)
          ∧ (s.lt.load.passes ≠ [] → t.lt.load.number = s.lt.nextNumber ∧ t.lt.load.passes = [] ∧ t.lt.held = s.lt.held
            ∧ ∃ c, t.lq.queue.getLast? = some c ∧ c.load = s.lt.load ∧ c.cause = .button)
          ∧ t.ct = s.ct ∧ t.we = s.we ∧ t.cu = s.cu
      | .ackMsg =>
        (s.onDisplay = none → t.ex.slots = s.ex.slots)
          ∧ (∀ p m, s.onDisplay = some p → s.ex.slots.get p = some m →
            t.ex.slots = s.ex.slots.set p (some { m with acked := true }) ∧ (t.ex.pending.get p).getLsbD 12 = true)
          ∧ t.ex.storeOrder = s.ex.storeOrder ∧ t.ct = s.ct ∧ t.we = s.we ∧ t.cu = s.cu ∧ t.lt = s.lt ∧ t.lq = s.lq
          ∧ t.sd = s.sd
      | .park =>
        t.ct.park = true ∧ t.lt = s.lt
          ∧ (s.lm.levels.park = false → s.ct.tracker ≠ .stopped → s.ct.tracker ≠ .weighing →
            s.ct.tracker ≠ .parked → t.ct = { s.ct with
              park := true, tracker := .parked, windowTimer := .stopped, dwellTimer := .stopped, belowStart := false })
          ∧ (s.lm.levels.park = false → s.ct.tracker = .weighing →
            s.weighAborted t ∧ t.ct.tracker = .parked ∧ t.ct.abortCause = some .park)
          ∧ (s.ct.tracker = .stopped ∨ s.ct.tracker = .parked → t.ct = { s.ct with park := true })
      | .lights => t.sd.lights = true ∧ t.lt = s.lt ∧ t.lq = s.lq ∧ t.ct = s.ct ∧ t.we = s.we ∧ t.cu = s.cu
      | .dumpSwitch =>
        t.ct.dumpSwitch = true ∧ t.lt = s.lt ∧ t.lq = s.lq ∧ t.we = s.we ∧ t.cu = s.cu
          ∧ (s.lm.levels.dumpSwitch = true → t.ct = s.ct)
          ∧ ∀ theta phi, s.lm.levels.dumpSwitch = false → s.sp.liveTheta = some theta → s.sp.livePhi = some phi →
            Ct.dumpSwitched theta phi { s.ct with dumpSwitch := true } t.ct
      | .unused => t.lt = s.lt ∧ t.lq = s.lq ∧ t.ct = s.ct ∧ t.we = s.we ∧ t.cu = s.cu ∧ t.sd = s.sd)
    ∧ ∀ (k : Fin 8) (s : State), s.released k → s.linesSound →
      let other : LineFn → Prop := fun f => ∃ j, j ≠ k ∧ s.lm.settings.funcs.get j = f ∧ s.lineActive j = true
      ∃ t, exec .lineUpdate s = .next t ∧ t.lt = s.lt ∧ t.lq = s.lq ∧ t.we = s.we ∧ t.cu = s.cu ∧ t.ex.slots = s.ex.slots
        ∧ match s.lm.settings.funcs.get k with
          | .park =>
            t.ct = { s.ct with park := t.ct.park } ∧ (t.ct.park = true ↔ other .park) ∧ t.sd = s.sd ∧ t.sp = s.sp
          | .dumpSwitch =>
            t.sd = s.sd ∧ t.sp = s.sp ∧ (other .dumpSwitch → t.ct = s.ct)
              ∧ (¬other .dumpSwitch → t.ct.dumpSwitch = false)
              ∧ ∀ theta phi, ¬other .dumpSwitch → s.sp.liveTheta = some theta → s.sp.livePhi = some phi →
                Ct.dumpSwitched theta phi { s.ct with dumpSwitch := false } t.ct
          | .lights => t.ct = s.ct ∧ t.sd = { s.sd with lights := t.sd.lights } ∧ (t.sd.lights = true ↔ other .lights)
          | _ => t.ct = s.ct ∧ t.sd = s.sd ∧ t.sp = s.sp

/-- LINE_STATE: the levels, the functions, the port's own watch with its match state in MATCH mode, its capture and its event
count, which then becomes 0 (R29). SET_WATCH: a mode outside its list is refused naming field 2; otherwise the watch is set
with no capture and no events, and in MATCH mode with the match state evaluated at once (R26). The bytes that report levels:
bit k of the active levels is line Lk's active level (R20), and the function byte has PARK, DUMP_SWITCH, LIGHTS and the
configured status in bits 0 to 3 (Table 11-2). -/
def Obligations.LineWatches : Prop :=
  (∀ (p : Port) (s : State), s.ready p →
      (∀ w, w = s.lm.watch.get p →
        exec (.lineState p) s = .next (State.answered p .ok
          ([s.lm.raw, s.lm.debounced, s.lm.active, s.lm.levels.code,
              (match w.mode with
              | .off => 0
              | .matching _ => 1
              | .change => 2),
              w.mask, w.compare]
            ++ (match w.mode with
              | .matching true => [1, 1]
              | .matching false => [1, 0]
              | _ => [0, 0])
            ++ (match w.capture with
              | some c => [1, c]
              | none => [0, 0])
            ++ [BitVec.ofNat 8 w.count])
          { s with lm.watch := s.lm.watch.set p { w with count := 0 } }))
        ∧ ∀ mask compare mode : Byte,
          (2 < mode.toNat → exec (.setWatch p mask compare mode) s = .next (State.answered p .badParam [2] s))
            ∧ (mode = 0 → exec (.setWatch p mask compare mode) s = .next (State.answered p .ok [s.lm.active, 0, 0]
                { s with lm.watch := s.lm.watch.set p ⟨.off, mask, compare, none, 0⟩ }))
            ∧ (mode = 2 → exec (.setWatch p mask compare mode) s = .next (State.answered p .ok [s.lm.active, 0, 0]
                { s with lm.watch := s.lm.watch.set p ⟨.change, mask, compare, none, 0⟩ }))
            ∧ (mode = 1 → ∃ m : Bool,
                (m = true ↔ ∀ k < 8, mask.getLsbD k = true → s.lm.active.getLsbD k = compare.getLsbD k)
                  ∧ exec (.setWatch p mask compare mode) s = .next (State.answered p .ok [s.lm.active, 1, if m then 1 else 0]
                    { s with lm.watch := s.lm.watch.set p ⟨.matching m, mask, compare, none, 0⟩ })))
    ∧ ((∀ (s : State) (k : Fin 8), s.lm.active.getLsbD k.val = s.lineActive k)
        ∧ ∀ (l : FnLevels) (k : Nat), l.code.getLsbD k =
            match k with
            | 0 => l.park
            | 1 => l.dumpSwitch
            | 2 => l.lights
            | 3 => l.dumpConfigured
            | _ => false)

/-- WRITE_SETTINGS of LINES: the first failing field of the 24 is named; a record that passes is in force at once, with debounced
and raw levels and difference counts kept, the level functions following, no function event raised, and both watches evaluated
exactly if some active level changed (R24, R25). -/
def Obligations.LinesWrite : Prop :=
  ∀ (p : Port) (w : LinesWire) (s : State), s.ready p →
    let fieldOk : Fin 24 → Prop := fun i =>
      if i.val < 8 then (w.funcs.get ⟨i.val % 8, Nat.mod_lt _ (by decide)⟩).toNat ≤ 8
      else if i.val < 16 then (w.polarities.get ⟨i.val % 8, Nat.mod_lt _ (by decide)⟩).toNat ≤ 1
      else
        let d := (w.debounce.get ⟨i.val % 8, Nat.mod_lt _ (by decide)⟩).toNat
        10 ≤ d ∧ d ≤ 250 ∧ d % 10 = 0
    (∀ i : Fin 24, ¬fieldOk i → (∀ j, j < i → fieldOk j) →
        exec (.writeSettingsLines p w) s = .next (State.answered p .badParam [BitVec.ofNat 8 i.val] s))
      ∧ ((∀ i, fieldOk i) → ∃ t, exec (.writeSettingsLines p w) s = .next t
        ∧ (∀ k, (t.lm.settings.funcs.get k).code = w.funcs.get k
          ∧ (t.lm.settings.inverted.getLsbD k.val = true ↔ w.polarities.get k = 1)
          ∧ t.lm.settings.debounce.get k = (w.debounce.get k).toNat)
        ∧ (t.lm.raw = s.lm.raw ∧ t.lm.debounced = s.lm.debounced ∧ t.lm.diff = s.lm.diff)
        ∧ (t.lm.levels.park = true ↔ t.fnActive .park) ∧ (t.lm.levels.dumpSwitch = true ↔ t.fnActive .dumpSwitch)
        ∧ (t.lm.levels.lights = true ↔ t.fnActive .lights)
        ∧ (t.lm.active = s.lm.active → t.lm.watch = s.lm.watch)
        ∧ (t.lm.active ≠ s.lm.active →
          ∀ q, (s.lm.watch.get q).follows (t.lm.watch.get q) s.lm.active t.lm.active)
        ∧ t.ports = s.ports.set p (t.ports.get p) ∧ t.sd.text = s.sd.text ∧ t.we.weigh = s.we.weigh ∧ t.we.zt = s.we.zt
        ∧ t.cu = { s.cu with cal := t.cu.cal } ∧ t.lt = s.lt ∧ t.ex.slots = s.ex.slots
        ∧ t.ex.storeOrder = s.ex.storeOrder ∧ t.lq.queue = s.lq.queue
        ∧ (t.ports.get p).reply = some ⟨[0], 0⟩)

/-! ### Strip Driver -/

/-- The strip's own timers. At REFRESH the snapshot is composed and its send begins, and the next period is that of the settings
then in force (R137, R138); the end of the send; the blink phase every 250 ms (R144); the showing advisory at its hold time,
with the next one shown under the ADVISORY_HOLD then in force (R149). Each of these timers restarts on its expiry's own tick
boundary (log 4); a refresh during a send replaces the snapshot, and the snapshot stays after its send (log 18). Before its
expiry a command does nothing (log 2). An advisory that a block queues into an empty queue shows at once, with the hold timer
started under the ADVISORY_HOLD in force; into a queue of fewer than 4 it is appended; into a full one it replaces the newest
(R148). While SENDING, STDAT carries the snapshot's bytes in order, each most significant bit first (R138). -/
def Obligations.StripTimers : Prop :=
  ∀ s : State, s.held = false →
    (s.sd.refreshTimer = .counting (s.sd.refreshPeriod / 10) →
        exec .refreshExpiry s = .next { s with
          sd.snapshot := some s.stripFrame, sd.sending := true, sd.refreshTimer := .counting 0
          sd.refreshPeriod := s.sd.settings.refresh })
      ∧ ((∀ n, s.sd.refreshTimer = .counting n → n < s.sd.refreshPeriod / 10) → exec .refreshExpiry s = .next s)
      ∧ exec .stripFrameSent s = .next { s with sd.sending := false }
      ∧ (s.sd.blinkTimer = .counting 25 →
        exec .blinkToggle s = .next { s with sd.blink := !s.sd.blink, sd.blinkTimer := .counting 0 })
      ∧ ((∀ n, s.sd.blinkTimer = .counting n → n < 25) → exec .blinkToggle s = .next s)
      ∧ (∀ x, s.sd.advisories = [x] → s.sd.holdTimer = .counting (s.sd.holdTime * 10) →
        exec .advisoryHoldExpiry s = .next { s with sd.advisories := [], sd.holdTimer := .stopped })
      ∧ (∀ x y rest, s.sd.advisories = x :: y :: rest → s.sd.holdTimer = .counting (s.sd.holdTime * 10) →
        exec .advisoryHoldExpiry s = .next { s with
          sd.advisories := y :: rest, sd.holdTimer := .counting 0, sd.holdTime := s.sd.settings.advisoryHold })
      ∧ ((∀ n, s.sd.holdTimer = .counting n → n < s.sd.holdTime * 10) → exec .advisoryHoldExpiry s = .next s)
      ∧ ∀ x,
        (s.sd.advisories = [] → s.queueAdvisory x = { s with
            sd.advisories := [x], sd.holdTimer := .started, sd.holdTime := s.sd.settings.advisoryHold })
          ∧ (s.sd.advisories ≠ [] → s.queueAdvisory x =
            { s with sd.advisories := withAdvisory x s.sd.advisories })
          ∧ (s.sd.sending = false → s.sd.stdat = [])
          ∧ ∀ frame, s.sd.sending = true → s.sd.snapshot = some frame →
            s.sd.stdat.length = 8 * frame.length
              ∧ ∀ k < 8 * frame.length, s.sd.stdat.getD k false = (frame.getD (k / 8) 0).getLsbD (7 - k % 8)

/-- A strip frame has 67 bytes, and every character byte in it is a code in 0x20..0x5F (Table 8-3, R139, R146, R150). Its fields
are the pass shown, the total, the remaining mass and the pass count, the first and the third blank where R140 says so (R139,
R140). A mass field is the mass in tenths of a tonne, rounded and clamped, right-justified in six characters: a minus sign
before the first digit of a negative value, the integer part without leading zeros, a point and the tenth (R118, R139). -/
def Obligations.StripFrameShape : Prop :=
  ∀ s : State,
    (s.stripSound → s.lt.load.passes.length ≤ 12 → s.stripFrame.length = 67
      ∧ ∀ i, 6 ≤ i ∧ i < 26 ∨ 27 ≤ i ∧ i < 67 →
        0x20 ≤ (s.stripFrame.getD i 0).toNat ∧ (s.stripFrame.getD i 0).toNat ≤ 0x5F)
      ∧ (s.shownPass = none → (s.stripFrame.drop 6).take 6 = List.replicate 6 0x20)
      ∧ (∀ m f, s.shownPass = some (some m, f) → (s.stripFrame.drop 6).take 6 = massField m)
      ∧ (∀ f, s.shownPass = some (none, f) →
        (s.stripFrame.drop 6).take 6 = ascii [' ', ' ', '-', '-', '-', '-'])
      ∧ (s.stripFrame.drop 12).take 6 = massField s.lt.load.total
      ∧ (s.lt.load.target = none → (s.stripFrame.drop 18).take 6 = List.replicate 6 0x20)
      ∧ (∀ t, s.lt.load.target = some t → (s.stripFrame.drop 18).take 6 = massField ((t : Int) - s.lt.load.total))
      ∧ (s.lt.load.passes.length ≤ 99 → ∃ ds, isDecimal ds s.lt.load.passes.length
          ∧ (s.stripFrame.drop 24).take 2 = List.replicate (2 - ds.length) 0x20 ++ ds)
      ∧ (∀ kg v : Int, v = min 99999 (max (-9999) (roundDiv kg 100)) → ∃ spaces ds, isDecimal ds (v.natAbs / 10)
          ∧ massField kg = List.replicate spaces 0x20 ++ (if v < 0 then [0x2D] else []) ++ ds
            ++ [0x2E, BitVec.ofNat 8 (0x30 + v.natAbs % 10)]
          ∧ (massField kg).length = 6)
      ∧ ∀ x, (s.lt.held = some x → s.shownPass = some (x.mass, x.flags))
        ∧ (∀ rest e, s.lt.held = none → s.lt.load.passes = rest ++ [e] → s.shownPass = some (e.mass, e.flags))
        ∧ (s.lt.held = none → s.lt.load.passes = [] → s.shownPass = none)

/-- The bargraph: physical position i, bit 7 of byte 1 being position 1, is lit exactly if its logical segment, i or with MIRROR
41 − i, is at most N; and N is that of R141 (R141, R142, Table 8-3). The header byte and the lamp byte of a strip frame: dim,
blink phase, target mark and MIRROR in the header's high bits with its low bits zero; the eight lamps of Table 8-4, lamp k at
bit 8 − k, reversed under MIRROR (R142 to R145, Table 8-3). -/
def Obligations.StripFrameBits : Prop :=
  (∀ s : State,
      (∀ i, 1 ≤ i → i ≤ 40 →
          bitOfBytes s.stripFrame (7 + i) = decide ((if s.sd.settings.mirror then 41 - i else i) ≤ s.litSegments))
        ∧ (∀ t, s.lt.settings.barMode = .loadProgress → s.lt.load.target = some t →
            s.litSegments = min 40 (s.lt.load.total * 30 / t))
        ∧ (s.lt.settings.barMode = .passFill ∨ s.lt.load.target = none →
            ∀ m f, s.shownPass = some (m, f) →
              s.litSegments =
                if f.uncal then 0
                else min 40 (min 199 ((2 * (creditedMass m * 100) + s.capacity) / (2 * s.capacity)) * 20 / 100))
        ∧ (s.lt.settings.barMode = .passFill ∨ s.lt.load.target = none → s.shownPass = none → s.litSegments = 0))
    ∧ (∀ s : State,
        (∀ k < 8, (s.stripFrame.getD 0 0).getLsbD k =
            match k with
            | 7 => match s.sd.dim with
              | .on => true
              | .off => false
              | .auto => s.sd.lights
            | 6 => s.sd.blink
            | 5 => decide (s.lt.settings.barMode = .loadProgress) && s.lt.load.target.isSome
            | 4 => s.sd.settings.mirror
            | _ => false)
          ∧ ∀ k < 8, (s.stripFrame.getD 26 0).getLsbD (if s.sd.settings.mirror then k else 7 - k) =
            match k with
            | 0 => decide (s.lt.load.state = .target)
            | 1 => decide (s.lt.load.state = .over) && s.sd.blink
            | 2 => decide ((s.lt.held.map fun x => x.flags.tipped) = some true)
            | 3 => decide (s.cu.cal ≠ .idle)
            | 4 => s.sp.sensorFault
            | 5 => s.ex.slotQualifies .a || s.ex.slotQualifies .b
            | 6 => decide (s.cu.table ≠ .valid) || decide ((s.shownPass.map fun x => x.2.uncal) = some true)
            | _ => decide (s.ct.tracker = .parked))

/-- The message line, bytes 27 to 66 of a strip frame, from the highest active layer: the showing advisory's text, SENSOR FAULT,
the message on display with every byte outside 0x20..0x5F a space, the last-pass advice, the port text layer; the text
left-aligned and the rest spaces (R146). The texts of the advisories are those of Table 8-6, a load number in five digits
(R108). The slot on display is the earliest stored message whose SHOW is set and whose ACKED is clear, with no advisory queued
and the sensor fault status clear (R147). The capacity is BUCKET_VOL times the density of the open load's material, over 100,
rounded (R115). The advice exists exactly for a remaining mass above 0 and at most the capacity, and is the rounded percentage,
at least 1, written in decimal (R117). -/
def Obligations.MessageLine : Prop :=
  ∀ s : State,
    (∀ x rest, s.sd.advisories = x :: rest → s.stripFrame.drop 27 = padRight 40 x.text)
      ∧ (s.sd.advisories = [] → s.sp.sensorFault = true →
        s.stripFrame.drop 27 = padRight 40 (ascii ['S', 'E', 'N', 'S', 'O', 'R', ' ', 'F', 'A', 'U', 'L', 'T']))
      ∧ (∀ p m, s.onDisplay = some p → s.ex.slots.get p = some m →
        s.stripFrame.drop 27 =
          padRight 40 (m.bytes.map fun c => if 0x20 ≤ c.toNat ∧ c.toNat ≤ 0x5F then c else 0x20))
      ∧ (s.sd.advisories = [] → s.sp.sensorFault = false → s.onDisplay = none →
        (∀ n, s.advice = some n → s.stripFrame.drop 27 =
            padRight 40 (ascii ['L', 'A', 'S', 'T', ' ', 'P', 'A', 'S', 'S', ' '] ++ decimal 3 n ++ ascii ['%']))
          ∧ (s.advice = none →
            s.stripFrame.drop 27 = (List.range 40).map fun a => textRead s.sd.text a))
      ∧ (∀ p, s.onDisplay = some p ↔
        s.sd.advisories = [] ∧ s.sp.sensorFault = false
          ∧ ∃ pre post, s.ex.storeOrder = pre ++ p :: post
            ∧ (∃ m, s.ex.slots.get p = some m ∧ m.showFlag = true ∧ m.acked = false)
            ∧ ∀ q ∈ pre, ∀ m, s.ex.slots.get q = some m → m.showFlag = false ∨ m.acked = true)
      ∧ (∀ x : Advisory, x.text =
        match x with
        | .targetReached => ascii ['T', 'A', 'R', 'G', 'E', 'T', ' ', 'R', 'E', 'A', 'C', 'H', 'E', 'D']
        | .overload => ascii ['O', 'V', 'E', 'R', 'L', 'O', 'A', 'D']
        | .reWeigh => ascii ['R', 'E', '-', 'W', 'E', 'I', 'G', 'H']
        | .weighAborted => ascii ['W', 'E', 'I', 'G', 'H', ' ', 'A', 'B', 'O', 'R', 'T', 'E', 'D']
        | .loadClosed n => ascii ['L', 'O', 'A', 'D', ' ']
            ++ [10000, 1000, 100, 10, 1].map (fun d => BitVec.ofNat 8 (0x30 + n / d % 10))
            ++ ascii [' ', 'C', 'L', 'O', 'S', 'E', 'D']
        | .calLiftEmpty => ascii ['C', 'A', 'L', ' ', 'L', 'I', 'F', 'T', ' ', 'E', 'M', 'P', 'T', 'Y']
        | .calLiftLoad => ascii ['C', 'A', 'L', ' ', 'L', 'I', 'F', 'T', ' ', 'L', 'O', 'A', 'D']
        | .calDone => ascii ['C', 'A', 'L', ' ', 'D', 'O', 'N', 'E']
        | .calFailed => ascii ['C', 'A', 'L', ' ', 'F', 'A', 'I', 'L', 'E', 'D'])
      ∧ s.capacity = (2 * (s.lt.settings.bucketVol * (s.lt.materials.get s.lt.load.material).density) + 100) / 200
      ∧ (∀ n < 1000, isDecimal (decimal 3 n) n)
      ∧ (s.lt.load.target = none → s.advice = none)
      ∧ ∀ t, s.lt.load.target = some t →
        (s.lt.load.total < t → t ≤ s.lt.load.total + s.capacity →
            s.advice = some (max 1 ((2 * ((t - s.lt.load.total) * 100) + s.capacity) / (2 * s.capacity))))
          ∧ (t ≤ s.lt.load.total ∨ s.lt.load.total + s.capacity < t → s.advice = none)

/-- OPEN_WINDOW checks its fields in order and refuses with the first that fails; a window that passes is opened with its counter
at column cs and row rs, which the reply gives, and the layer is unchanged (R151). SET_STRIP sets the dim override and replies
with it and the dim state (R145). -/
def Obligations.StripOrders : Prop :=
  ∀ (p : Port) (s : State), s.ready p →
    (∀ f : WindowWire,
        exec (.openWindow p f) s =
          .next (if 19 < f.cs.toNat then State.answered p .badParam [0] s
            else if f.ce.toNat < f.cs.toNat ∨ 19 < f.ce.toNat then State.answered p .badParam [1] s
            else if 1 < f.rs.toNat then State.answered p .badParam [2] s
            else if f.re.toNat < f.rs.toNat ∨ 1 < f.re.toNat then State.answered p .badParam [3] s
            else if 1 < f.direction.toNat then State.answered p .badParam [4] s
            else State.answered p .ok [f.cs, f.rs] { s with
              sd.windows := s.sd.windows.set p (some
                { cs := f.cs.toNat, ce := f.ce.toNat, rs := f.rs.toNat, re := f.re.toNat
                  direction := if f.direction = 0 then .rowFirst else .columnFirst
                  col := f.cs.toNat, row := f.rs.toNat }) }))
      ∧ ∀ o : Byte,
        exec (.setStrip p o) s =
          .next (if o = 0 then State.answered p .ok [0, if s.sd.lights then 1 else 0] { s with sd.dim := .auto }
            else if o = 1 then State.answered p .ok [1, 1] { s with sd.dim := .on }
            else if o = 2 then State.answered p .ok [2, 0] { s with sd.dim := .off }
            else State.answered p .badParam [0] s)

/-- PUT_TEXT. A length above 64 is refused naming field 0, the characters passed over, with no deposit in progress at the port, as
there was none in EXPECT_ORDER in any state that a run reaches (StepKeepsExchange); a closed window refuses with STATE;
otherwise each character goes to the cell at the counter, which then advances, a code outside 0x20..0x5F as a space; every
other cell reads as before, and the reply is the counter after the last character (R150, R152, R172). The counter of a window
stays inside it and runs through its cells in the order of its direction, wrapping from the last cell to the first; the bounds
and the direction stay (R152). -/
def Obligations.TextWindows : Prop :=
  (∀ w : Window, w.sound →
      w.advance.sound ∧ w.advance = { w with col := w.advance.col, row := w.advance.row }
        ∧ (w.direction = .rowFirst →
          (w.ce - w.cs + 1) * (w.advance.row - w.rs) + (w.advance.col - w.cs)
            = ((w.ce - w.cs + 1) * (w.row - w.rs) + (w.col - w.cs) + 1) % ((w.ce - w.cs + 1) * (w.re - w.rs + 1)))
        ∧ (w.direction = .columnFirst →
          (w.re - w.rs + 1) * (w.advance.col - w.cs) + (w.advance.row - w.rs)
            = ((w.re - w.rs + 1) * (w.col - w.cs) + (w.row - w.rs) + 1) % ((w.ce - w.cs + 1) * (w.re - w.rs + 1))))
    ∧ (∀ (p : Port) (length : Byte) (chars : List Byte) (s : State), s.ready p → lengthAgrees length chars = true →
        (64 < length.toNat → exec (.putText p length chars) s =
            .next (State.answered p .badParam [0] { s with ex.deposits := s.ex.deposits.set p none }))
          ∧ (length.toNat ≤ 64 → s.sd.windows.get p = none →
            exec (.putText p length chars) s = .next (State.answered p .state [] s))
          ∧ ∀ w, length.toNat ≤ 64 → s.sd.windows.get p = some w →
            ∃ text, exec (.putText p length chars) s = .next (State.answered p .ok
                [BitVec.ofNat 8 (Window.advance^[chars.length] w).col, BitVec.ofNat 8 (Window.advance^[chars.length] w).row]
                { s with sd.windows := s.sd.windows.set p (some (Window.advance^[chars.length] w)), sd.text := text })
              ∧ (s.stripSound → ∀ c r, c < 20 → r < 2 →
                (∀ j < chars.length, (Window.advance^[j] w).col ≠ c ∨ (Window.advance^[j] w).row ≠ r) →
                textRead text (20 * r + c) = textRead s.sd.text (20 * r + c))
              ∧ (s.stripSound → ∀ j < chars.length,
                (∀ i < chars.length, j < i →
                  (Window.advance^[i] w).col ≠ (Window.advance^[j] w).col
                    ∨ (Window.advance^[i] w).row ≠ (Window.advance^[j] w).row) →
                textRead text (20 * (Window.advance^[j] w).row + (Window.advance^[j] w).col)
                  = (if 0x20 ≤ (chars.getD j 0).toNat ∧ (chars.getD j 0).toNat ≤ 0x5F then chars.getD j 0 else 0x20)))

/-! ### Link ports -/

/-- A unit that completes in EXPECT_ORDER: a stray raises the stray count and is the last result; a code outside the order table
is BAD_ORDER with no reply, taken as an order; a code of fixed parameters, and PUT_TEXT, begin PARAMS; so does
DEPOSIT_MESSAGE, with a deposit in progress while its outbound slot is EMPTY, and settled at once as SLOT_FULL while it is
FULL (R157, R160, R170, R172). -/
def Obligations.UnitsInExpectOrder : Prop :=
  ∀ (p : Port) (b : Byte) (s : State), s.ready p →
    exec (.stray p b) s = .next { s with
        ports := s.ports.set p { s.ports.get p with
          shift := [], strays := min 255 ((s.ports.get p).strays + 1), lastResult := .stray } }
      ∧ (callsOf b = none → exec (.badOrder p b) s = .next { s with
          ports := s.ports.set p { s.ports.get p with shift := [], lastResult := .badOrder }
          ex.holdTimer := if s.ex.hold = some p then .started else s.ex.holdTimer })
      ∧ (∀ n, callsOf b = some (.fixed (n + 1)) → exec (.orderUnit p b) s = .next { s with
          ports := s.ports.set p { s.ports.get p with
            frame := .params, shift := [], order := some ⟨b, [], some (n + 1)⟩, ended := false } })
      ∧ (callsOf b = some .text → exec (.orderUnit p b) s = .next { s with
          ports := s.ports.set p { s.ports.get p with
            frame := .params, shift := [], order := some ⟨b, [], none⟩, ended := false } })
      ∧ (callsOf b = some .deposit → s.ex.slots.get p = none → exec (.orderUnit p b) s = .next { s with
          ports := s.ports.set p { s.ports.get p with
            frame := .params, shift := [], order := some ⟨b, [], none⟩, ended := false }
          ex.deposits := s.ex.deposits.set p (some 0) })
      ∧ (callsOf b = some .deposit → s.ex.slots.get p ≠ none → exec (.orderUnit p b) s = .next { s with
          ports := s.ports.set p { s.ports.get p with
            frame := .params, shift := [], order := some ⟨b, [], none⟩, ended := true, reply := some ⟨[0x09], 0⟩
            lastResult := .slotFull }
          ex.holdTimer := if s.ex.hold = some p then .started else s.ex.holdTimer })

/-- A parameter unit in PARAMS. It joins the parameters of an order not yet settled, and the last one due takes the order with
them; a length unit sets the count, 0 counting as 64, one more for a deposit's SHOW unit, and a length above 64 settles the
order with BAD_PARAM; a unit of a settled order is passed over, and the last one due brings the reply (R160, R171, R172). In
PAUSED and in REPLY no unit completes, and a unit row does nothing, which is the model's reading (log 2). -/
def Obligations.ParameterUnits : Prop :=
  (∀ (p : Port) (b : Byte) (s : State), s.held = false →
      (s.ports.get p).frame = .reply ∨ (s.ports.get p).frame = .paused →
      exec (.parameterUnit p b) s = .next s ∧ exec (.stray p b) s = .next s)
    ∧ ∀ (p : Port) (b : Byte) (o : Pending) (s : State), s.held = false → (s.ports.get p).selected = true →
      (s.ports.get p).frame = .params → (s.ports.get p).order = some o →
      ((s.ports.get p).ended = false → o.due = some 1 →
          exec (.parameterUnit p b) s = .next (s.take p (orderOf p o.code (o.params ++ [b]))))
        ∧ (∀ n, (s.ports.get p).ended = false → o.due = some (n + 2) → callsOf o.code ≠ some .deposit →
          exec (.parameterUnit p b) s = .next { s with
            ports := s.ports.set p { s.ports.get p with
              shift := [], order := some ⟨o.code, o.params ++ [b], some (n + 1)⟩ } })
        ∧ (∀ n, (s.ports.get p).ended = false → o.due = some (n + 2) → callsOf o.code = some .deposit →
          exec (.parameterUnit p b) s = .next { s with
            ports := s.ports.set p { s.ports.get p with
              shift := [], order := some ⟨o.code, o.params ++ [b], some (n + 1)⟩ }
            ex.deposits := s.ex.deposits.set p (some (o.params.length - 1)) })
        ∧ (∀ n, (s.ports.get p).ended = false → o.due = none → b.toNat ≤ 64 → n = (if b = 0 then 64 else b.toNat) →
          exec (.parameterUnit p b) s = .next { s with
            ports := s.ports.set p { s.ports.get p with
              shift := []
              order := some ⟨o.code, o.params ++ [b], some (if callsOf o.code = some .deposit then n + 1 else n)⟩ } })
        ∧ ((s.ports.get p).ended = false → o.due = none → 64 < b.toNat →
          exec (.parameterUnit p b) s = .next { s with
            ports := s.ports.set p { s.ports.get p with
              frame := .params, shift := []
              order := some ⟨o.code, o.params ++ [b],
                some (if callsOf o.code = some .deposit then b.toNat + 1 else b.toNat)⟩
              ended := true, reply := some ⟨[0x02, 0], 0⟩, lastResult := .badParam }
            ex.deposits := s.ex.deposits.set p none
            ex.holdTimer := if s.ex.hold = some p then .started else s.ex.holdTimer })
        ∧ (∀ n, (s.ports.get p).ended = true → o.due = some (n + 2) →
          exec (.parameterUnit p b) s = .next { s with
            ports := s.ports.set p { s.ports.get p with shift := [], order := some { o with due := some (n + 1) } } })
        ∧ ((s.ports.get p).ended = true → o.due = some 1 →
          exec (.parameterUnit p b) s = .next { s with
            ports := s.ports.set p { s.ports.get p with
              frame := .reply, shift := [], order := none, ended := false, contentionSeen := false } })
        ∧ (∀ n, (s.ports.get p).ended = true → o.due = none → n = (if b = 0 then 64 else b.toNat) →
          exec (.parameterUnit p b) s = .next { s with
            ports := s.ports.set p { s.ports.get p with
              shift := []
              order := some { o with due := some (if callsOf o.code = some .deposit then n + 1 else n) } } })

/-- SEL edges by the frame state, and nothing else: a rising edge discards the bits of a unit, pauses PARAMS and ends a reply; a
falling edge in PAUSED returns to PARAMS with unit counting fresh (R169, R173). In a state where an edge cannot arise, as a rising
one in PAUSED, it sets the level and changes nothing else (log 2, log 29). The level follows the edges while RESET holds the part
too, so that it is right at the release (R169). While SEL is high no clock samples anything: a clock, a
unit and a row that stands for a whole order change nothing (R169; that such a row then changes nothing is log 2). -/
def Obligations.SelEdges : Prop :=
  ∀ (p : Port) (q : Lp) (s : State), s.ports.get p = q →
    exec (.selRise p) s = .next { s with
        ports := s.ports.set p (match q.frame with
          | .expectOrder => { q with selected := false, shift := [] }
          | .params => { q with selected := false, frame := .paused, shift := [] }
          | .paused => { q with selected := false }
          | .reply => { q with selected := false, frame := .expectOrder, shift := [], reply := none }) }
      ∧ exec (.selFall p) s = .next { s with
        ports := s.ports.set p (match q.frame with
          | .expectOrder => { q with selected := true, shift := [] }
          | .params => { q with selected := true, shift := [] }
          | .paused => { q with selected := true, frame := .params, shift := [] }
          | .reply => { q with selected := true }) }
      ∧ (q.selected = false →
        (∀ b, exec (.orderUnit p b) s = .next s ∧ exec (.badOrder p b) s = .next s ∧ exec (.parameterUnit p b) s = .next s
            ∧ exec (.stray p b) s = .next s)
          ∧ (∀ dat, exec (.replyClock p dat) s = .next s) ∧ exec (.contention p) s = .next s
          ∧ ∀ c code params, orderWire c = some (p, code, params) → exec c s = .next s)

/-- Nine rising edges of CLK with SEL low, in EXPECT_ORDER or PARAMS, make one unit: the kind bit and then the byte, most significant
bit first. It has the effect of the unit row of its kind, and the eight edges before it nothing but their bits (R169 to R172).
That REPLY_CLOCK shifts a unit's bit in outside REPLY (log 10), and that a unit is handled by the frame state whichever row of its
kind names it (log 9), is the model's reading. -/
def Obligations.NineClocksMakeUnit : Prop :=
  ∀ (p : Port) (kind : Bool) (b : Byte) (s : State), s.held = false → (s.ports.get p).selected = true →
    (s.ports.get p).shift = [] →
    ((s.ports.get p).frame = .expectOrder ∨ (s.ports.get p).frame = .params ∧ (s.ports.get p).order.isSome) →
      steps 9 { s with
          pending := (kind :: (List.range 8).map fun k => b.getLsbD (7 - k)).map (fun d => .replyClock p d) ++ s.pending }
        = exec (if kind then .parameterUnit p b else .orderUnit p b) s

/-- The unit of an order of a fixed number of parameters and then its parameter units take the order with those parameters: the
order's effect, its reply fixed and the frame in REPLY (R170, R171). The units of an order row, by the order code and the
parameter layout of Table 11-3 and Table 11-4, with any bytes in the rest of a record area, have the effect of the row (R180,
R181; that a row stands for its units is log 8). READ_SETTINGS and WRITE_SETTINGS of a group code above 5 are BAD_PARAM with the
reply byte 0xFF, whoever holds the hold (R179, R181). -/
def Obligations.UnitsMakeOrder : Prop :=
  (∀ (p : Port) (code : Byte) (params : List Byte) (s : State), s.ready p →
      callsOf code = some (.fixed params.length) →
        steps (params.length + 1) { s with pending := orderUnits p code params ++ s.pending }
          = .next (State.answered p (orderOf p code params s).result (orderOf p code params s).reply
              (orderOf p code params s).state))
    ∧ (∀ (p : Port) (c : Instr) (code : Byte) (params rest : List Byte) (s : State), s.ready p →
        orderWire c = some (p, code, params) → c.wf = true →
        (if code = 0x11 then (params ++ rest).length = 25 else rest = []) →
          steps ((params ++ rest).length + 1) { s with pending := orderUnits p code (params ++ rest) ++ s.pending } = exec c s)
    ∧ ∀ (p : Port) (group : Byte) (area : List Byte) (s : State), s.ready p → 5 < group.toNat → area.length = 24 →
        steps 2 { s with pending := orderUnits p 0x10 [group] ++ s.pending } = .next (State.answered p .badParam [0xFF] s)
          ∧ steps 26 { s with pending := orderUnits p 0x11 (group :: area) ++ s.pending }
            = .next (State.answered p .badParam [0xFF] s)

/-- A kind-0 unit in PARAMS abandons the pending order, and then is handled as in EXPECT_ORDER: an order not yet taken leaves the
last result ABANDONED, and a deposit of k ≥ 1 message bytes is stored TRUNCATED with MSG_ARRIVED to the recipient, one of k =
0 is not; an order already settled loses its reply and keeps its result (R161, R174). The same holds of a row that stands for
a whole order; in REPLY and PAUSED such a row does nothing, which is the model's reading (log 2, log 8). -/
def Obligations.AbandonedOrder : Prop :=
  ∀ (p : Port) (c : Instr) (q : Lp) (s : State), s.held = false → s.ports.get p = q → q.selected = true →
    (isOrderRow c = some p ∨ ∃ b, c = .orderUnit p b ∨ c = .badOrder p b) →
    (q.frame = .params → q.ended = true → exec c s = exec c { s with
        ports := s.ports.set p { q with frame := .expectOrder, shift := [], order := none, ended := false, reply := none } })
      ∧ (q.frame = .params → q.ended = false → s.ex.deposits.get p = none → exec c s = exec c { s with
        ports := s.ports.set p
          { q with frame := .expectOrder, shift := [], order := none, reply := none, lastResult := .abandoned } })
      ∧ (q.frame = .params → q.ended = false → s.ex.deposits.get p = some 0 → exec c s = exec c { s with
        ports := s.ports.set p
          { q with frame := .expectOrder, shift := [], order := none, reply := none, lastResult := .abandoned }
        ex.deposits := s.ex.deposits.set p none })
      ∧ (∀ k o, q.frame = .params → q.ended = false → s.ex.deposits.get p = some (k + 1) → q.order = some o →
        exec c s = exec c { s with
          ports := s.ports.set p
            { q with frame := .expectOrder, shift := [], order := none, reply := none, lastResult := .abandoned }
          ex.deposits := s.ex.deposits.set p none
          ex.slots := s.ex.slots.set p (some
            { bytes := o.params.drop 2, showFlag := (o.params.getD 1 0).getLsbD 0, truncated := true, acked := false })
          ex.storeOrder := s.ex.storeOrder ++ [p]
          ex.pending := s.ex.pending.set (other p) (s.ex.pending.get (other p) ||| 0x0400) })
      ∧ (q.frame = .reply ∨ q.frame = .paused → exec c s = .next s)

/-- One rising edge of CLK in REPLY: the turnaround clock only moves on; a clock that samples a bit moves on, and the last one
ends the reply in EXPECT_ORDER. A bit presented released that reads low is contention, once in a reply: contention seen, the
count, and LINK_ERROR to this port (R175, R176). CONTENTION is that clock; where there is none, it does nothing, which is the
model's reading (log 10). -/
def Obligations.ReplyClocks : Prop :=
  ∀ (p : Port) (dat : Bool) (q : Lp) (r : Reply) (s : State), s.held = false → s.ports.get p = q →
    q.selected = true → q.frame = .reply → q.reply = some r →
    (r.pos = 0 → r.bytes ≠ [] →
        exec (.replyClock p dat) s = .next { s with ports := s.ports.set p { q with reply := some { r with pos := 1 } } })
      ∧ (1 ≤ r.pos → r.pos < 8 * r.bytes.length →
        (dat = true ∨ bitOfBytes r.bytes (r.pos - 1) = false ∨ q.contentionSeen = true) →
        exec (.replyClock p dat) s =
          .next { s with ports := s.ports.set p { q with reply := some { r with pos := r.pos + 1 } } })
      ∧ (1 ≤ r.pos → r.pos < 8 * r.bytes.length → bitOfBytes r.bytes (r.pos - 1) = true → q.contentionSeen = false →
        ∀ c, c = .replyClock p false ∨ c = .contention p → exec c s = .next { s with
            ports := s.ports.set p { q with
              reply := some { r with pos := r.pos + 1 }, contentionSeen := true, contentions := min 255 (q.contentions + 1) }
            ex.pending := s.ex.pending.set p (s.ex.pending.get p ||| 0x8000) })
      ∧ (1 ≤ r.pos → r.pos = 8 * r.bytes.length →
        (dat = true ∨ bitOfBytes r.bytes (r.pos - 1) = false ∨ q.contentionSeen = true) →
        exec (.replyClock p dat) s =
          .next { s with ports := s.ports.set p { q with frame := .expectOrder, shift := [], reply := none } })
      ∧ (1 ≤ r.pos → r.pos = 8 * r.bytes.length → bitOfBytes r.bytes (r.pos - 1) = true → q.contentionSeen = false →
        ∀ c, c = .replyClock p false ∨ c = .contention p → exec c s = .next { s with
            ports := s.ports.set p { q with
              frame := .expectOrder, shift := [], reply := none, contentionSeen := true
              contentions := min 255 (q.contentions + 1) }
            ex.pending := s.ex.pending.set p (s.ex.pending.get p ||| 0x8000) })
      ∧ (r.pos = 0 ∨ bitOfBytes r.bytes (r.pos - 1) = false ∨ q.contentionSeen = true →
        exec (.contention p) s = .next s)

/-- A reply of n bytes is clocked out whole by 8n + 1 clocks with DAT left to the part: after k of them, 1 ≤ k ≤ 8n, the part
presents bit k of the bytes, result byte first and most significant bit first; after the last the frame is in EXPECT_ORDER and
nothing else has changed (R171, R175). -/
def Obligations.WholeReplyClocked : Prop :=
  ∀ (p : Port) (bytes : List Byte) (s : State), s.held = false → bytes ≠ [] → (s.ports.get p).selected = true →
    (s.ports.get p).frame = .reply →
    (s.ports.get p).reply = some ⟨bytes, 0⟩ →
      steps (8 * bytes.length + 1) { s with
          pending := List.replicate (8 * bytes.length + 1) (.replyClock p true) ++ s.pending }
        = .next { s with
            ports := s.ports.set p { s.ports.get p with frame := .expectOrder, shift := [], reply := none } }
      ∧ ∀ k, 1 ≤ k → k ≤ 8 * bytes.length → ∃ t : State,
        steps k { s with pending := List.replicate k (.replyClock p true) ++ s.pending } = .next t
          ∧ (t.ports.get p).presented = some (bitOfBytes bytes (k - 1))

/-- LINK_RESET with no pending order: the hold released if the port holds it, the trace cancelled if the port owns it, the window
closed, the watch OFF with its mask and compare kept, the pending flags cleared with the enables kept, and the counts 0;
result OK and an empty reply. With a calibration running, the loss of the hold ends it with CAL_FAILED pending on the other
port only (R17, R30, R158, R168, R178). PORT_STATUS replies with the last result as it stood before it and the two counts; the
last result is then its own OK, and the counts stay (R177). -/
def Obligations.LinkResetAndStatus : Prop :=
  (∀ (p : Port) (s : State), s.ready p →
      (s.ex.hold ≠ some p ∨ s.cu.cal = .idle →
        exec (.linkReset p) s = .next (State.answered p .ok []
          { s with
            ex.hold := if s.ex.hold = some p then none else s.ex.hold
            ex.holdTimer := if s.ex.hold = some p then .stopped else s.ex.holdTimer
            ex.pending := s.ex.pending.set p 0
            sp.trace := if s.sp.trace.owner = some p then ⟨[], none, .off, 0⟩ else s.sp.trace
            sd.windows := s.sd.windows.set p none
            lm.watch := s.lm.watch.set p { s.lm.watch.get p with mode := .off, capture := none, count := 0 }
            ports := s.ports.set p { s.ports.get p with order := none, ended := false, strays := 0, contentions := 0 } }))
        ∧ (s.ex.hold = some p → s.cu.cal ≠ .idle → ∃ t, exec (.linkReset p) s = .next t
          ∧ t.ex.hold = none ∧ t.ex.holdTimer = .stopped ∧ t.cu.cal = .idle
          ∧ t.cu.outcome = some ⟨none, .failed, some .aborted, none, none, none, none⟩
          ∧ t.ex.pending.get p = 0 ∧ (t.ex.pending.get (other p)).getLsbD 3 = true ∧ t.ex.enable = s.ex.enable
          ∧ t.sd.windows = s.sd.windows.set p none ∧ t.sd.advisories = withAdvisory .calFailed s.sd.advisories
          ∧ (t.ports.get p).frame = .reply ∧ (t.ports.get p).reply = some ⟨[0], 0⟩ ∧ (t.ports.get p).strays = 0
          ∧ (t.ports.get p).contentions = 0 ∧ t.lt = s.lt ∧ t.lq = s.lq ∧ t.ct = s.ct ∧ t.we = s.we
          ∧ (t.cu.table = s.cu.table ∧ t.cu.tare = s.cu.tare ∧ t.cu.loaded = s.cu.loaded ∧ t.cu.mref = s.cu.mref)))
    ∧ (∀ (p : Port) (s : State), s.ready p →
        exec (.portStatus p) s = .next (State.answered p .ok
          [(s.ports.get p).lastResult.code, BitVec.ofNat 8 (s.ports.get p).strays, BitVec.ofNat 8 (s.ports.get p).contentions] s))

/-! ### Orders -/

/-- RUN and STOP at SP, WE and CT (R1, R31, R32, R53); taken in the state they lead to, each is answered OK and changes nothing.
The pulse that begins the first pacing period is counted by the model (R2, log 11). A STOP in WEIGHING aborts the weigh with
cause STOPPED and no advisory (R32, R40), its discarded sums at 0, which is the model's reading (log 14). -/
def Obligations.RunStop : Prop :=
  ∀ (p : Port) (s : State), s.ready p →
    (s.sp.sampling = .stopped → s.ct.tracker = .stopped →
      exec (.run p) s = .next (State.answered p .ok [] { s with
          sp := { s.sp with
            sampling := .running, seqExpect := none, lastTheta := none, lastPhi := none, lastPsi := none, heldAngle := 0
            sensorFault := false, cleanRun := 0, lossTimer := .started
            pacer := if s.sp.paceRate = .off then .stopped else .started
            pace := decide (s.sp.paceRate ≠ .off)
            pacePulses := s.sp.pacePulses + if s.sp.paceRate = .off then 0 else 1 }
          we.history := [], we.latestF := none
          ct.tracker := if s.ct.park then .parked else .sensorWait
          ct.windowTimer := .stopped, ct.dwellTimer := .stopped, ct.belowStart := false, ct.highTheta := none
          ct.latestCycle := none, ct.cycleRef := .started })
        ∧ exec (.stop p) s = .next (State.answered p .ok [] s))
      ∧ (s.sp.sampling = .running → s.ct.tracker ≠ .stopped →
        exec (.run p) s = .next (State.answered p .ok [] s))
      ∧ (s.sp.sampling = .running → s.ct.tracker ≠ .stopped → s.ct.tracker ≠ .weighing →
        exec (.stop p) s = .next (State.answered p .ok [] { s with
          sp.sampling := .stopped, sp.pacer := .stopped, sp.pace := false, sp.lossTimer := .stopped
          ct.tracker := .stopped, ct.windowTimer := .stopped, ct.dwellTimer := .stopped, ct.cycleRef := .stopped
          ct.belowStart := false }))
      ∧ (s.sp.sampling = .running → s.ct.tracker = .weighing → ∃ t, exec (.stop p) s = .next t ∧ s.weighAborted t
        ∧ t.ct.tracker = .stopped ∧ t.ct.abortCause = some .stopped ∧ t.ct.cycleRef = .stopped
        ∧ t.sp.sampling = .stopped ∧ t.sp.lossTimer = .stopped ∧ t.sp.pacer = .stopped ∧ t.sd = s.sd
        ∧ (t.ports.get p).reply = some ⟨[0], 0⟩)

/-- The orders that only read: the result is OK, nothing changes, and the reply has the length of Table 11-3 and the fields of Table
11-4 in their order. An absent sub-record is sent as zeros, the forces of an EMPTY table among them (log 23). The six settings
reads give a pending byte and the record in force (R77, R95, R112, R133, R166, R180, R181, R184). The flag bytes and the codes of
the states in them are those of Table 11-2, the result codes those of Table 11-1. -/
def Obligations.ReadOrders : Prop :=
  (∀ (f : PassFlags) (m : WinMarks) (k : Nat),
      f.code.getLsbD k =
          (match k with
          | 0 => f.short
          | 1 => f.gapped
          | 2 => f.clipped
          | 3 => f.slope
          | 4 => f.range
          | 5 => f.uncal
          | 6 => f.reweighed
          | 7 => f.tipped
          | _ => false)
        ∧ m.code.getLsbD k =
          match k with
          | 0 => m.gapped
          | 1 => m.clipped
          | 2 => m.slope
          | _ => false)
    ∧ ([Tracker.stopped, .sensorWait, .parked, .low, .lifting, .weighing, .raised, .dumping, .returning].map Tracker.code
        = [0, 1, 2, 3, 4, 5, 6, 7, 8]
      ∧ [CalState.idle, .tareArmed, .tareLift, .loadedWait, .loadedArmed, .loadedLift, .zeroArmed, .zeroLift].map CalState.code
        = [0, 1, 2, 3, 4, 5, 6, 7]
      ∧ [Sampling.stopped, .running].map Sampling.code = [0, 1] ∧ [none, some .a, some .b].map portCode = [0, 1, 2]
      ∧ [TableState.empty, .valid, .stale].map TableState.code = [0, 1, 2]
      ∧ [Origin.calibrated, .written].map Origin.code = [0, 1]
      ∧ [LoadState.empty, .filling, .target, .over].map LoadState.code = [0, 1, 2, 3]
      ∧ [CloseCause.button, .order, .target, .passLimit, .shift].map CloseCause.code = [0, 1, 2, 3, 4]
      ∧ [AbortCause.lowered, .timeout, .noData, .park, .sensorLost, .stopped].map AbortCause.code = [0, 1, 2, 3, 4, 5]
      ∧ [Lift.tare, .loaded, .zero].map Lift.code = [0, 1, 2]
      ∧ [CalResult.stepDone, .done, .failed].map CalResult.code = [0, 1, 2]
      ∧ [CalCause.short, .quality, .span, .zero, .aborted, .settings].map CalCause.code = [0, 1, 2, 3, 4, 5]
      ∧ [PaceRate.off, .hz50, .hz100, .hz200].map PaceRate.code = [0, 1, 2, 3]
      ∧ [LineFn.unused, .park, .dumpSwitch, .lights, .tipOff, .undo, .nextTruck, .discard, .ackMsg].map LineFn.code
        = [0, 1, 2, 3, 4, 5, 6, 7, 8]
      ∧ [BarMode.loadProgress, .passFill].map BarMode.code = [0, 1]
      ∧ [TraceMode.off, .ring, .lift .waiting].map TraceMode.code = [0, 1, 2]
      ∧ [TracePhase.waiting, .recording, .done].map TracePhase.code = [0, 1, 2]
      ∧ [ResultCode.ok, .badOrder, .badParam, .held, .notHolder, .busy, .empty, .stale, .notOldest, .slotFull, .noMessage,
          .state, .heldPass, .abandoned, .stray].map ResultCode.code = (List.range 15).map (BitVec.ofNat 8))
    ∧ ∀ (p : Port) (s : State), s.ready p →
      let counters : Counters → List Byte := fun c =>
        u16 c.cycles ++ u32 c.cycleTimeSum ++ u16 c.credited ++ u16 c.discarded ++ u16 c.undone ++ u16 c.aborts
          ++ u16 c.loadsClosed ++ u32 c.tonnes ++ u8 c.dropped ++ u16 c.duration
      let l := s.lt.load
      let c := s.cu
      (∃ r, exec (.readLive p) s = .next (State.answered p .ok r s) ∧ r.length = 63
          ∧ r = [s.ct.tracker.code, s.sp.sampling.code, if s.sp.sensorFault then 1 else 0]
            ++ optField 2 i16 s.sp.liveTheta ++ optField 2 i16 s.sp.livePhi ++ optField 2 i16 s.sp.livePsi
            ++ optField 4 i32 s.we.latestF ++ u16 s.sp.gapCount ++ u16 s.sp.frameErrors
            ++ optField 1 (fun a => [AbortCause.code a]) s.ct.abortCause ++ optField 2 u16 s.ct.latestCycle
            ++ (match s.lt.held with
              | none => List.replicate 11 0
              | some x => 1 :: optField 4 i32 x.mass ++ [x.flags.code] ++ u8 x.binsUsed ++ i16 x.meanPitch ++ u8 x.reweighs)
            ++ u16 l.number ++ optField 2 u16 l.truck ++ u8 l.material.val ++ optField 4 u32 l.target
            ++ [l.state.code, BitVec.ofNat 8 l.passes.length] ++ u32 l.total
            ++ [c.table.code, portCode s.ex.hold, c.cal.code] ++ i16 s.we.zt
            ++ (match c.outcome with
              | none => [0, 0, 0, 0]
              | some o => [1, o.result.code] ++ optField 1 (fun a => [CalCause.code a]) o.cause))
        ∧ (∃ r, exec (.readOpenLoad p) s = .next (State.answered p .ok r s)
          ∧ r.length = 42 + 11 * l.passes.length
          ∧ r = u16 l.number ++ optField 2 u16 l.truck ++ u8 l.material.val ++ optField 4 u32 l.target
            ++ [portCode l.source, l.state.code] ++ u16 l.duration ++ u32 l.total ++ u8 l.passes.length
            ++ l.passes.flatMap (fun e =>
              u8 e.number ++ optField 4 i32 e.mass ++ [e.flags.code] ++ u32 e.credited)
            ++ u32 s.capacity ++ optField 4 i32 (l.target.map fun t => (t : Int) - l.total) ++ optField 1 u8 s.advice
            ++ match s.lt.nextTruck with
              | none => List.replicate 11 0
              | some a => 1 :: optField 2 u16 a.truck ++ u8 a.material.val ++ optField 4 u32 a.target
                ++ [portCode (some a.source)])
        ∧ (∃ r, exec (.readTable p) s = .next (State.answered p .ok r s) ∧ r.length = 126
          ∧ r = [c.table.code] ++ optField 1 (fun o => [Origin.code o]) c.origin
            ++ (if c.table = .empty then List.replicate 67 0
              else 1 :: u16 (c.mref.getD 0) ++ c.tare.toList.flatMap i32 ++ c.loaded.toList.flatMap i32)
            ++ i16 s.we.zt ++ [c.cal.code]
            ++ optField 32 (fun v : Eight Int => v.toList.flatMap i32)
              (if c.cal = .loadedWait ∨ c.cal = .loadedArmed ∨ c.cal = .loadedLift then c.scratchTare else none)
            ++ optField 2 u16 (if c.cal = .loadedArmed ∨ c.cal = .loadedLift then c.scratchMref else none)
            ++ match c.outcome with
              | none => List.replicate 17 0
              | some o => 1 :: optField 1 (fun a => [Lift.code a]) o.lift ++ [o.result.code]
                ++ optField 1 (fun a => [CalCause.code a]) o.cause ++ optField 1 u8 o.q
                ++ optField 1 (fun m => [WinMarks.code m]) o.marks ++ optField 1 u8 o.failBin ++ optField 4 i32 o.m1)
        ∧ (∃ r, exec (.readShift p) s = .next (State.answered p .ok r s) ∧ r.length = 56
          ∧ r = u8 s.lq.shiftNo ++ counters s.lq.counters ++ u8 s.lq.queue.length
            ++ optField 2 u16 (s.lq.queue.head?.map fun d => d.load.number)
            ++ match s.lq.lastSummary with
              | none => List.replicate 28 0
              | some m => 1 :: u8 m.shiftNo ++ counters m.counters ++ optField 2 u16 m.closing)
        ∧ exec (.readSettingsSample p) s = .next (State.answered p .ok [0, s.sp.paceRate.code] s)
        ∧ exec (.readSettingsWeigh p) s = .next (State.answered p .ok
            ((if s.we.pendingWeigh = none then 0 else 1) :: i8 s.we.weigh.nCyl ++ i16 s.we.weigh.aHead ++ i16 s.we.weigh.aRod
              ++ i16 s.we.weigh.thetaStart ++ i16 s.we.weigh.thetaEnd ++ u8 s.we.weigh.filter ++ u8 s.we.weigh.minS
              ++ u8 s.we.weigh.minB ++ i8 s.we.weigh.kp ++ i16 s.we.weigh.pitchLimit ++ u8 s.we.weigh.wtMax) s)
        ∧ exec (.readSettingsCycle p) s = .next (State.answered p .ok
            ((if s.ct.pendingCycle = none then 0 else 1) :: i16 s.ct.cycle.thetaLow ++ i16 s.ct.cycle.thetaDump
              ++ i16 s.ct.cycle.phiDump ++ i8 s.ct.cycle.hyst ++ u16 s.ct.cycle.dumpDwell) s)
        ∧ exec (.readSettingsLoad p) s = .next (State.answered p .ok
            (0 :: u16 s.lt.settings.bucketVol ++ u8 s.lt.settings.tol ++ u8 s.lt.settings.ovr
              ++ [if s.lt.settings.autoClose then 1 else 0, s.lt.settings.barMode.code]) s)
        ∧ exec (.readSettingsLines p) s = .next (State.answered p .ok
            (0 :: s.lm.settings.funcs.toList.map LineFn.code
              ++ (List.range 8).map (fun k => if s.lm.settings.inverted.getLsbD k then 1 else 0)
              ++ s.lm.settings.debounce.toList.map (BitVec.ofNat 8)) s)
        ∧ exec (.readSettingsStrip p) s = .next (State.answered p .ok
            (0 :: u8 s.sd.settings.refresh ++ u8 s.sd.settings.advisoryHold ++ [if s.sd.settings.mirror then 1 else 0]) s)

/-- WRITE_SETTINGS of SAMPLE, LOAD and STRIP, and the material table: the first failing field, checked in index order, is named in
BAD_PARAM and nothing changes; a record that passes replaces the one in force, with the effects of R2 and R120 (R2, R114,
R119, R120, R153, R182). A new pacing period begins with a pulse, which the model counts, with PACE high until the next tick
(log 11). -/
def Obligations.PlainWrites : Prop :=
  ∀ (p : Port) (s : State), s.ready p →
    (∀ rate : Byte,
        (3 < rate.toNat → exec (.writeSettingsSample p rate) s = .next (State.answered p .badParam [0] s))
          ∧ ∀ r, r.code = rate →
            (s.sp.sampling = .stopped → exec (.writeSettingsSample p rate) s =
                .next (State.answered p .ok [] { s with sp.paceRate := r }))
              ∧ (s.sp.sampling = .running → r = .off → exec (.writeSettingsSample p rate) s =
                .next (State.answered p .ok [] { s with sp.paceRate := .off, sp.pace := false, sp.pacer := .stopped }))
              ∧ (s.sp.sampling = .running → r ≠ .off → exec (.writeSettingsSample p rate) s =
                .next (State.answered p .ok [] { s with
                  sp.paceRate := r, sp.pace := true, sp.pacer := .started, sp.pacePulses := s.sp.pacePulses + 1 })))
      ∧ (∀ w : LoadWire, exec (.writeSettingsLoad p w) s =
          .next (if w.bucketVol.toNat < 100 ∨ 3000 < w.bucketVol.toNat then State.answered p .badParam [0] s
            else if 20 < w.tol.toNat then State.answered p .badParam [1] s
            else if 20 < w.ovr.toNat then State.answered p .badParam [2] s
            else if 1 < w.autoClose.toNat then State.answered p .badParam [3] s
            else if 1 < w.barMode.toNat then State.answered p .badParam [4] s
            else
              let r : LoadRec :=
                { bucketVol := w.bucketVol.toNat, tol := w.tol.toNat, ovr := w.ovr.toNat, autoClose := decide (w.autoClose = 1)
                  barMode := if w.barMode = 0 then .loadProgress else .passFill }
              State.answered p .ok [] { s with lt.settings := r, lt.load.state := loadStateOf r s.lt.load }))
      ∧ (∀ w : StripWire, exec (.writeSettingsStrip p w) s =
          .next (if w.refresh.toNat < 20 ∨ 200 < w.refresh.toNat ∨ w.refresh.toNat % 10 ≠ 0 then
              State.answered p .badParam [0] s
            else if w.advisoryHold.toNat < 5 ∨ 100 < w.advisoryHold.toNat then State.answered p .badParam [1] s
            else if 1 < w.mirror.toNat then State.answered p .badParam [2] s
            else State.answered p .ok []
              { s with sd.settings := ⟨w.refresh.toNat, w.advisoryHold.toNat, decide (w.mirror = 1)⟩ }))
      ∧ (∀ i : Byte,
          (7 < i.toNat → exec (.readMaterial p i) s = .next (State.answered p .badParam [0] s))
            ∧ ∀ k : Fin 8, i.toNat = k.val → exec (.readMaterial p i) s = .next (State.answered p .ok
              (BitVec.ofNat 8 (s.lt.materials.get k).name.length :: padRight 8 (s.lt.materials.get k).name
                ++ u16 (s.lt.materials.get k).density) s))
      ∧ ∀ w : MaterialWire,
          (7 < w.index.toNat → exec (.writeMaterial p w) s = .next (State.answered p .badParam [0] s))
            ∧ ∀ k : Fin 8, w.index.toNat = k.val → exec (.writeMaterial p w) s =
              .next (if w.nameLength.toNat < 1 ∨ 8 < w.nameLength.toNat then State.answered p .badParam [1] s
                else if w.density.toNat < 800 ∨ 3000 < w.density.toNat then State.answered p .badParam [2] s
                else State.answered p .ok [] { s with
                  lt.materials := s.lt.materials.set k
                    ⟨(w.name.toList.take w.nameLength.toNat).map fun c =>
                        if 0x20 ≤ c.toNat ∧ c.toNat ≤ 0x5F then c else 0x20,
                      w.density.toNat⟩ })

/-- The field checks of a WEIGH record and of a CYCLE record, in index order: the first that fails is the one named (R50, R73,
Table 4-5). -/
def Obligations.ThresholdChecks : Prop :=
  (∀ (w : WeighRec) (cs : List CycleRec), weighFirstBad w cs =
      if w.nCyl < 1 ∨ 2 < w.nCyl then some 0
      else if w.aHead < 100 ∨ 2000 < w.aHead then some 1
      else if w.aRod < 50 ∨ w.aHead - 1 < w.aRod then some 2
      else if w.thetaStart < -600 ∨ 700 < w.thetaStart ∨ (∃ c ∈ cs, w.thetaStart ≤ c.thetaLow) then some 3
      else if w.thetaEnd < -600 ∨ 700 < w.thetaEnd ∨ w.thetaEnd < w.thetaStart + 80 ∨ (∃ c ∈ cs, c.thetaDump < w.thetaEnd)
        then some 4
      else if w.filter ≠ 1 ∧ w.filter ≠ 2 ∧ w.filter ≠ 4 ∧ w.filter ≠ 8 then some 5
      else if w.minS < 1 ∨ 16 < w.minS then some 6
      else if w.minB < 1 ∨ 8 < w.minB then some 7
      else if w.kp < -100 ∨ 100 < w.kp then some 8
      else if w.pitchLimit < 0 ∨ 300 < w.pitchLimit then some 9
      else if w.wtMax < 10 ∨ 200 < w.wtMax then some 10
      else none)
    ∧ ∀ (c : CycleRec) (w : WeighRec), cycleFirstBad c w =
      if c.thetaLow < -600 ∨ 700 < c.thetaLow ∨ w.thetaStart ≤ c.thetaLow then some 0
      else if c.thetaDump < -600 ∨ 700 < c.thetaDump ∨ c.thetaDump < w.thetaEnd then some 1
      else if c.phiDump < -900 ∨ 900 < c.phiDump then some 2
      else if c.hyst < 2 ∨ 50 < c.hyst then some 3
      else if c.dumpDwell < 50 ∨ 2000 < c.dumpDwell ∨ c.dumpDwell % 10 ≠ 0 then some 4
      else none

/-- WRITE_SETTINGS of WEIGH and CYCLE: HELD under the other port's hold; BAD_PARAM with the first failing field; else placed by
the tracker state, at once or pending. A WEIGH record of the same geometry, applied, touches nothing else; one of another
geometry makes a VALID table STALE and ends a running calibration with cause SETTINGS; a CYCLE record applied at once brings a
pending WEIGH record into force with it (R50, R73 to R76, R93). The fields are those of the wire record, the angles and KP in
two's complement (R180). -/
def Obligations.ThresholdWrites : Prop :=
  ∀ (p : Port) (ww : WeighWire) (cw : CycleWire) (s : State), s.ready p →
    let w : WeighRec :=
      { nCyl := ww.nCyl.toNat, aHead := ww.aHead.toNat, aRod := ww.aRod.toNat, thetaStart := ww.thetaStart.toInt
        thetaEnd := ww.thetaEnd.toInt, filter := ww.filter.toNat, minS := ww.minS.toNat, minB := ww.minB.toNat
        kp := ww.kp.toInt, pitchLimit := ww.pitchLimit.toNat, wtMax := ww.wtMax.toNat }
    let c : CycleRec :=
      { thetaLow := cw.thetaLow.toInt, thetaDump := cw.thetaDump.toInt, phiDump := cw.phiDump.toInt, hyst := cw.hyst.toNat
        dumpDwell := cw.dumpDwell.toNat }
    let atOnce := s.ct.tracker = .stopped ∨ s.ct.tracker = .sensorWait ∨ s.ct.tracker = .parked ∨ s.ct.tracker = .low
    let same := w.nCyl = s.we.weigh.nCyl ∧ w.aHead = s.we.weigh.aHead ∧ w.aRod = s.we.weigh.aRod
      ∧ w.thetaStart = s.we.weigh.thetaStart ∧ w.thetaEnd = s.we.weigh.thetaEnd
    (s.ex.hold = some (other p) → exec (.writeSettingsWeigh p ww) s = .next (State.answered p .held [] s)
        ∧ exec (.writeSettingsCycle p cw) s = .next (State.answered p .held [] s))
      ∧ (s.ex.hold ≠ some (other p) →
        (∀ i, weighFirstBad w (s.ct.cycle :: s.ct.pendingCycle.toList) = some i →
            exec (.writeSettingsWeigh p ww) s = .next (State.answered p .badParam [BitVec.ofNat 8 i] s))
          ∧ (∀ i, cycleFirstBad c (s.we.pendingWeigh.getD s.we.weigh) = some i →
            exec (.writeSettingsCycle p cw) s = .next (State.answered p .badParam [BitVec.ofNat 8 i] s))
          ∧ (weighFirstBad w (s.ct.cycle :: s.ct.pendingCycle.toList) = none →
            (¬atOnce → exec (.writeSettingsWeigh p ww) s =
                .next (State.answered p .ok [] { s with we.pendingWeigh := some w }))
              ∧ (atOnce → same → exec (.writeSettingsWeigh p ww) s =
                .next (State.answered p .ok [] { s with we.weigh := w, we.pendingWeigh := none }))
              ∧ (atOnce → ¬same → s.cu.cal = .idle → exec (.writeSettingsWeigh p ww) s =
                .next (State.answered p .ok [] { s with
                  we.weigh := w, we.pendingWeigh := none
                  cu.table := if s.cu.table = .valid then .stale else s.cu.table }))
              ∧ (atOnce → ¬same → s.cu.cal ≠ .idle → ∃ t, exec (.writeSettingsWeigh p ww) s = .next t
                ∧ t.we = { s.we with weigh := w, pendingWeigh := none }
                ∧ t.cu = { s.cu with
                    table := if s.cu.table = .valid then .stale else s.cu.table, cal := .idle, scratchTare := none
                    scratchLoaded := none, scratchMref := none
                    outcome := some ⟨none, .failed, some .settings, none, none, none, none⟩ }
                ∧ (∀ q, (t.ex.pending.get q).getLsbD 3 = true)
                ∧ t.sd.advisories = withAdvisory .calFailed s.sd.advisories
                ∧ t.ct = s.ct ∧ t.lt = s.lt ∧ t.lq = s.lq ∧ s.orderRestKept p t))
          ∧ (cycleFirstBad c (s.we.pendingWeigh.getD s.we.weigh) = none →
            (¬atOnce → exec (.writeSettingsCycle p cw) s =
                .next (State.answered p .ok [] { s with ct.pendingCycle := some c }))
              ∧ (atOnce → s.we.pendingWeigh = none → exec (.writeSettingsCycle p cw) s =
                .next (State.answered p .ok [] { s with ct.cycle := c, ct.pendingCycle := none }))
              ∧ (∀ v, s.we.pendingWeigh = some v → atOnce → ∃ t, exec (.writeSettingsCycle p cw) s = .next t
                ∧ t.ct = { s.ct with cycle := c, pendingCycle := none }
                ∧ t.we = { s.we with weigh := v, pendingWeigh := none }
                ∧ t.lt = s.lt ∧ t.lq = s.lq ∧ s.orderRestKept p t)))

/-- SET_TARGET and SET_NEXT: the three fields checked in order, a presence byte other than 0 or 1 failing its field; SET_TARGET
that passes gives the open load its identity and recomputes its state, with a notice on entry into TARGET or OVER, closing
nothing; SET_NEXT replaces the assignment, or with its none flag empties it unchecked (R103, R110, R111, R180, R182). -/
def Obligations.TargetOrders : Prop :=
  ∀ (p : Port) (w : TargetWire) (n : Byte) (s : State), s.ready p →
    let bad0 := ¬(w.truck.presence = 0 ∨ w.truck.presence = 1 ∧ 1 ≤ w.truck.value.toNat ∧ w.truck.value.toNat ≤ 9999)
    let bad1 := 7 < w.material.toNat
    let bad2 := ¬(w.target.presence = 0
      ∨ w.target.presence = 1 ∧ 1000 ≤ w.target.value.toNat ∧ w.target.value.toNat ≤ 200000)
    let truck := if w.truck.presence = 1 then some w.truck.value.toNat else none
    let target := if w.target.presence = 1 then some w.target.value.toNat else none
    ((bad0 ∨ bad1 ∨ bad2) →
        (∀ i : Byte, i = (if bad0 then 0 else if bad1 then 1 else 2) →
          exec (.setTarget p w) s = .next (State.answered p .badParam [i] s)
            ∧ (n.getLsbD 0 = false → exec (.setNext p n w) s = .next (State.answered p .badParam [i] s))))
      ∧ (n.getLsbD 0 = true → exec (.setNext p n w) s = .next (State.answered p .ok [] { s with lt.nextTruck := none }))
      ∧ ∀ m : Fin 8, ¬bad0 → ¬bad2 → w.material.toNat = m.val →
        (n.getLsbD 0 = false → exec (.setNext p n w) s =
            .next (State.answered p .ok [] { s with lt.nextTruck := some ⟨truck, m, target, p⟩ }))
          ∧ ∃ t, exec (.setTarget p w) s = .next t
            ∧ t.lt = { s.lt with load := { s.lt.load with
                truck := truck, material := m, target := target, source := if target = none then none else some p
                state := t.lt.load.state } }
            ∧ t.lt.load.state = loadStateOf s.lt.settings t.lt.load
            ∧ (t.lt.load.state = .target → s.lt.load.state ≠ .target → ∀ q, (t.ex.pending.get q).getLsbD 6 = true)
            ∧ (t.lt.load.state = .over → s.lt.load.state ≠ .over → ∀ q, (t.ex.pending.get q).getLsbD 7 = true)
            ∧ (t.lt.load.state = s.lt.load.state → t.ex.pending = s.ex.pending ∧ t.sd = s.sd)
            ∧ (t.ports.get p).reply = some ⟨0 :: u16 s.lt.load.number ++ [t.lt.load.state.code], 0⟩
            ∧ t.lq = s.lq ∧ t.ct = s.ct ∧ t.we = s.we ∧ t.cu = s.cu ∧ s.orderRestKept p t

/-- CLOSE_LOAD and SHIFT_END. A close hands LQ the load whole with its cause and the union of its flags, counts it, raises
LOAD_CLOSED, and opens the next load under R109; the held pass stays. SHIFT_END closes a load that has a pass, makes the
shift's counters after that close the reply and the last summary, zeroes them, and advances the shift number (R107 to R109,
R122, R123, R131, R134, R135). -/
def Obligations.CloseAndShiftEnd : Prop :=
  ∀ (p : Port) (s : State), s.ready p →
    let closedWith : CloseCause → Counters → State → Prop := fun cause counters t =>
      (∃ c, t.lq.queue = (if s.lq.queue.length < 32 then s.lq.queue else s.lq.queue.tail) ++ [c] ∧ c.load = s.lt.load
          ∧ c.cause = cause ∧ c.flags = s.lt.load.passes.foldl (fun f e => f.union e.flags) PassFlags.none)
        ∧ counters = { s.lq.counters with
            loadsClosed := min 65535 (s.lq.counters.loadsClosed + 1)
            tonnes := min 4294967295 (s.lq.counters.tonnes + s.lt.load.total)
            dropped := if s.lq.queue.length < 32 then s.lq.counters.dropped else min 255 (s.lq.counters.dropped + 1) }
        ∧ (∀ q, (t.ex.pending.get q).getLsbD 5 = true
          ∧ (32 ≤ s.lq.queue.length → (t.ex.pending.get q).getLsbD 4 = true))
        ∧ t.sd.advisories = withAdvisory (.loadClosed s.lt.load.number) s.sd.advisories
        ∧ t.lt = { s.lt with
            load :=
              { number := s.lt.nextNumber, passes := [], total := 0, state := .empty, duration := 0
                truck := s.lt.nextTruck.bind fun a => a.truck
                material := (s.lt.nextTruck.map fun a => a.material).getD s.lt.load.material
                target := match s.lt.nextTruck with
                  | some a => a.target
                  | none => s.lt.load.target
                source := s.lt.nextTruck.bind fun a => a.target.map fun _ => a.source }
            durationTimer := .stopped, nextTruck := none
            nextNumber := if s.lt.nextNumber = 65535 then 1 else s.lt.nextNumber + 1 }
        ∧ t.ct = s.ct ∧ t.we = s.we ∧ t.cu = s.cu ∧ s.orderRestKept p t
    (s.lt.load.passes = [] →
        exec (.closeLoad p) s = .next (State.answered p .empty [] s)
          ∧ exec (.shiftEnd p) s = .next (State.answered p .ok
              (u8 s.lq.shiftNo ++ s.lq.counters.bytes ++ [0, 0, 0]) { s with
            lq.lastSummary := some ⟨s.lq.shiftNo, s.lq.counters, none⟩
            lq.counters := ⟨0, 0, 0, 0, 0, 0, 0, 0, 0, 0⟩, lq.shiftTimer := .started
            lq.shiftNo := if s.lq.shiftNo = 255 then 1 else s.lq.shiftNo + 1 }))
      ∧ (s.lt.load.passes ≠ [] →
        (∃ t, exec (.closeLoad p) s = .next t ∧ closedWith .order t.lq.counters t
            ∧ t.lq.shiftNo = s.lq.shiftNo ∧ (t.ports.get p).reply = some ⟨0 :: u16 s.lt.load.number, 0⟩)
          ∧ ∃ t m, exec (.shiftEnd p) s = .next t ∧ closedWith .shift m.counters t
            ∧ m.shiftNo = s.lq.shiftNo ∧ m.closing = some s.lt.load.number ∧ t.lq.lastSummary = some m
            ∧ t.lq.counters = ⟨0, 0, 0, 0, 0, 0, 0, 0, 0, 0⟩ ∧ t.lq.shiftTimer = .started
            ∧ t.lq.shiftNo = (if s.lq.shiftNo = 255 then 1 else s.lq.shiftNo + 1)
            ∧ (t.ports.get p).reply = some ⟨0 :: m.bytes, 0⟩)

/-- COLLECT_LOAD: the number of records and the oldest record whole, nothing changed; EMPTY with an empty reply on an empty queue.
RELEASE_LOAD, by the first case that applies: number 0 is BAD_PARAM; an empty queue is EMPTY; the oldest record's number
removes it; another record's is NOT_OLDEST; else STALE; the reply is the queue count after and the oldest number then, absent
on an empty queue (R124, R125). -/
def Obligations.QueueOrders : Prop :=
  ∀ (p : Port) (n : BitVec 16) (s : State), s.ready p →
    (s.lq.queue = [] →
        exec (.collectLoad p) s = .next (State.answered p .empty [] s)
          ∧ (n ≠ 0 → exec (.releaseLoad p n) s = .next (State.answered p .empty [0, 0, 0, 0] s)))
      ∧ (n = 0 → exec (.releaseLoad p n) s = .next (State.answered p .badParam [0] s))
      ∧ ∀ c rest, s.lq.queue = c :: rest →
        exec (.collectLoad p) s =
            .next (State.answered p .ok (BitVec.ofNat 8 s.lq.queue.length :: c.bytes) s)
          ∧ c.bytes.length = 22 + 11 * c.load.passes.length
          ∧ (n ≠ 0 → n.toNat = c.load.number →
            exec (.releaseLoad p n) s = .next (State.answered p .ok
              (BitVec.ofNat 8 rest.length :: (match rest with
                | [] => [0, 0, 0]
                | d :: _ => 1 :: u16 d.load.number)) { s with lq.queue := rest }))
          ∧ (n ≠ 0 → n.toNat ≠ c.load.number → (∃ d ∈ rest, d.load.number = n.toNat) →
            exec (.releaseLoad p n) s = .next (State.answered p .notOldest
              (BitVec.ofNat 8 s.lq.queue.length :: 1 :: u16 c.load.number) s))
          ∧ (n ≠ 0 → n.toNat ≠ c.load.number → (∀ d ∈ rest, d.load.number ≠ n.toNat) →
            exec (.releaseLoad p n) s = .next (State.answered p .stale
              (BitVec.ofNat 8 s.lq.queue.length :: 1 :: u16 c.load.number) s))

/-- The hold: TAKE_HOLD takes a FREE hold with its idle timer started, restarts the timer for its holder, and is refused with HELD
under the other port; DROP_HOLD frees it, from its holder only; the idle timer's expiry after 20 s frees it with HOLD_LAPSED
to the holder. With a calibration running a loss ends it with CAL_FAILED to both ports, cause ABORTED (R92, R155 to R157).
Before the expiry HOLD_LAPSE does nothing, which is the model's reading (log 2). -/
def Obligations.HoldOrders : Prop :=
  ∀ (p : Port) (s : State),
    (s.ready p →
        (s.ex.hold = none → exec (.takeHold p) s =
            .next (State.answered p .ok [0] { s with ex.hold := some p, ex.holdTimer := .started })
          ∧ exec (.dropHold p) s = .next (State.answered p .notHolder [] s))
          ∧ (s.ex.hold = some p → exec (.takeHold p) s =
            .next (State.answered p .ok [1] { s with ex.holdTimer := .started }))
          ∧ (s.ex.hold = some (other p) → exec (.takeHold p) s = .next (State.answered p .held [] s)
            ∧ exec (.dropHold p) s = .next (State.answered p .notHolder [] s))
          ∧ (s.ex.hold = some p → s.cu.cal = .idle → exec (.dropHold p) s =
            .next (State.answered p .ok [] { s with ex.hold := none, ex.holdTimer := .stopped }))
          ∧ (s.ex.hold = some p → s.cu.cal ≠ .idle → ∃ t, exec (.dropHold p) s = .next t ∧ s.lossOfHold t
            ∧ (t.ports.get p).reply = some ⟨[0], 0⟩))
      ∧ (s.held = false → s.ex.hold = some p → s.ex.holdTimer = .counting 2000 →
        (s.cu.cal = .idle → exec .holdLapse s = .next { s with
            ex.hold := none, ex.holdTimer := .stopped
            ex.pending := s.ex.pending.set p (s.ex.pending.get p ||| 0x0002) })
          ∧ (s.cu.cal ≠ .idle → ∃ t, exec .holdLapse s = .next t ∧ s.lossOfHold t
            ∧ (t.ex.pending.get p).getLsbD 1 = true ∧ t.ports = s.ports))
      ∧ ((∀ n, s.ex.holdTimer = .counting n → n < 2000) → exec .holdLapse s = .next s)

/-- The calibration orders and WRITE_TABLE: the checks of R81 in their order, then the effect: CAL_TARE and CAL_ZERO arm a lift
with the advisory CAL LIFT EMPTY, CAL_ZERO taking a FREE hold; CAL_LOADED arms the loaded lift with its MREF; CAL_ABORT ends a
running calibration; WRITE_TABLE replaces the table whole (R81, R82, R86, R89, R91, R94). -/
def Obligations.CalibrationOrders : Prop :=
  ∀ (p : Port) (mref : BitVec 16) (w : TableWire) (s : State), s.ready p →
    let fieldOk : Fin 17 → Prop := fun i =>
      if i.val = 0 then 100 ≤ w.mref.toNat ∧ w.mref.toNat ≤ 60000
      else if i.val < 9 then
        let t := (w.tare.get ⟨(i.val - 1) % 8, Nat.mod_lt _ (by decide)⟩).toInt
        t ≤ 180000000 ∧ -179910000 ≤ t
      else
        let l := (w.loaded.get ⟨(i.val - 1) % 8, Nat.mod_lt _ (by decide)⟩).toInt
        l ≤ 180000000 ∧ -179910000 ≤ l ∧ 10000 ≤ l - (w.tare.get ⟨(i.val - 1) % 8, Nat.mod_lt _ (by decide)⟩).toInt
    let mrefOk := 100 ≤ mref.toNat ∧ mref.toNat ≤ 60000
    let refused : Instr → ResultCode → List Byte → Prop := fun c r reply => exec c s = .next (State.answered p r reply s)
    (∀ c, c = .calTare p ∨ c = .calLoaded p mref ∨ c = .calAbort p ∨ c = .writeTable p w →
        (s.ex.hold = none → refused c .notHolder []) ∧ (s.ex.hold = some (other p) → refused c .held []))
      ∧ (s.ex.hold = some p → s.cu.cal ≠ .idle → s.cu.cal ≠ .loadedWait → refused (.calTare p) .state [])
      ∧ (s.ex.hold = some p → s.cu.cal = .idle ∨ s.cu.cal = .loadedWait → s.lt.held ≠ none →
        refused (.calTare p) .heldPass [])
      ∧ (s.ex.hold = some p → s.cu.cal = .idle ∨ s.cu.cal = .loadedWait → s.lt.held = none →
        exec (.calTare p) s = .next (State.answered p .ok [] (State.queueAdvisory .calLiftEmpty { s with
          cu.cal := .tareArmed, cu.scratchTare := none, cu.scratchLoaded := none, cu.scratchMref := none })))
      ∧ (s.ex.hold = some p → ¬mrefOk → refused (.calLoaded p mref) .badParam [0])
      ∧ (s.ex.hold = some p → mrefOk → s.cu.cal ≠ .loadedWait → refused (.calLoaded p mref) .state [])
      ∧ (s.ex.hold = some p → mrefOk → s.cu.cal = .loadedWait → exec (.calLoaded p mref) s =
        .next (State.answered p .ok [] { s with cu.cal := .loadedArmed, cu.scratchMref := some mref.toNat }))
      ∧ (s.ex.hold = some (other p) → refused (.calZero p) .held [])
      ∧ (s.ex.hold ≠ some (other p) → s.cu.cal ≠ .idle ∨ s.cu.table ≠ .valid → refused (.calZero p) .state [])
      ∧ (s.ex.hold ≠ some (other p) → s.cu.cal = .idle → s.cu.table = .valid → s.lt.held ≠ none →
        refused (.calZero p) .heldPass [])
      ∧ (s.ex.hold ≠ some (other p) → s.cu.cal = .idle → s.cu.table = .valid → s.lt.held = none →
        exec (.calZero p) s = .next (State.answered p .ok [] (State.queueAdvisory .calLiftEmpty { s with
          cu.cal := .zeroArmed, ex.hold := some p })))
      ∧ (s.ex.hold = some p → s.cu.cal = .idle → refused (.calAbort p) .ok [])
      ∧ (s.ex.hold = some p → s.cu.cal ≠ .idle → ∃ t, exec (.calAbort p) s = .next t
        ∧ t.cu = { s.cu with
            cal := .idle, scratchTare := none, scratchLoaded := none, scratchMref := none
            outcome := some ⟨none, .failed, some .aborted, none, none, none, none⟩ }
        ∧ (∀ q, (t.ex.pending.get q).getLsbD 3 = true) ∧ t.sd.advisories = withAdvisory .calFailed s.sd.advisories
        ∧ s.orderRestKept p t ∧ t.we = s.we ∧ t.ct = s.ct ∧ t.lt = s.lt ∧ t.lq = s.lq)
      ∧ (∀ i : Fin 17, s.ex.hold = some p → ¬fieldOk i → (∀ j, j < i → fieldOk j) →
        refused (.writeTable p w) .badParam [BitVec.ofNat 8 i.val])
      ∧ (s.ex.hold = some p → (∀ i, fieldOk i) → s.cu.cal ≠ .idle → refused (.writeTable p w) .state [])
      ∧ (s.ex.hold = some p → (∀ i, fieldOk i) → s.cu.cal = .idle → ∃ t, exec (.writeTable p w) s = .next t
        ∧ t.cu.table = .valid ∧ t.cu.origin = some .written ∧ t.cu.mref = some w.mref.toNat
        ∧ (∀ b, t.cu.tare.get b = (w.tare.get b).toInt ∧ t.cu.loaded.get b = (w.loaded.get b).toInt)
        ∧ t.cu.cal = .idle ∧ t.cu.outcome = s.cu.outcome ∧ t.we = s.we ∧ t.ct = s.ct ∧ t.lt = s.lt ∧ t.lq = s.lq ∧ t.sd = s.sd
        ∧ s.orderRestKept p t ∧ t.ex.pending = s.ex.pending ∧ (t.ports.get p).reply = some ⟨[0], 0⟩)

/-- A window completed with a qualifying bin while a calibration runs: the tare lift and the loaded lift judged on coverage, then
quality, then the spans, the zero lift on M1 alone; a window that was open before the arming is discarded. No pass is
produced, and the tally is untouched (R61, R70, R85, R87, R88, R90). -/
def Obligations.CalibrationLifts : Prop :=
  ∀ (bits : List Bool) (x : SampleSet) (theta : Int) (s : State), goodSample bits x theta s →
    s.ct.tracker = .weighing → s.we.weigh.thetaEnd ≤ theta → s.cu.cal ≠ .idle →
    let q := (eightIndices.filter fun b => decide (s.we.weigh.minS ≤ s.we.counts.get b)).length
    let m := s.we.marks
    let clean := m.gapped = false ∧ m.clipped = false ∧ m.slope = false
    let force : Fin 8 → Int := fun b => roundDiv (s.we.gross.get b) (s.we.counts.get b)
    1 ≤ q → ∃ t, exec (.receivedSampleSet bits) s = .next t
      ∧ t.ct = { s.ct with tracker := .raised, windowTimer := .stopped, highTheta := none }
      ∧ t.we.windowOpen = false ∧ t.lt = s.lt ∧ t.lq = s.lq ∧ t.ex.hold = s.ex.hold
      ∧ (s.cu.cal = .tareLift → q < 8 →
        t.cu = { s.cu with
            cal := .idle, scratchTare := none, scratchLoaded := none, scratchMref := none
            outcome := some ⟨some .tare, .failed, some .short, some q, some m, none, none⟩ }
          ∧ ∀ p, (t.ex.pending.get p).getLsbD 3 = true)
      ∧ (s.cu.cal = .tareLift → q = 8 → ¬clean →
        t.cu = { s.cu with
            cal := .tareArmed, scratchTare := none
            outcome := some ⟨some .tare, .failed, some .quality, some q, some m, none, none⟩ }
          ∧ ∀ p, (t.ex.pending.get p).getLsbD 3 = true)
      ∧ (s.cu.cal = .tareLift → q = 8 → clean →
        t.cu = { s.cu with
            cal := .loadedWait, scratchTare := t.cu.scratchTare
            outcome := some ⟨some .tare, .stepDone, none, some q, some m, none, none⟩ }
          ∧ (∃ v, t.cu.scratchTare = some v ∧ ∀ b, v.get b = force b)
          ∧ t.sd.advisories = withAdvisory .calLiftLoad s.sd.advisories)
      ∧ (s.cu.cal = .loadedLift → q < 8 →
        t.cu = { s.cu with
            cal := .loadedWait, scratchMref := none
            outcome := some ⟨some .loaded, .failed, some .short, some q, some m, none, none⟩ }
          ∧ ∀ p, (t.ex.pending.get p).getLsbD 3 = true)
      ∧ (s.cu.cal = .loadedLift → q = 8 → ¬clean →
        t.cu = { s.cu with
            cal := .loadedArmed, outcome := some ⟨some .loaded, .failed, some .quality, some q, some m, none, none⟩ }
          ∧ ∀ p, (t.ex.pending.get p).getLsbD 3 = true)
      ∧ (∀ tare, s.cu.scratchTare = some tare → ∀ b, s.cu.cal = .loadedLift → q = 8 → clean →
        force b - tare.get b < 10000 → (∀ c, c < b → 10000 ≤ force c - tare.get c) →
        t.cu = { s.cu with
            cal := .loadedWait, scratchLoaded := none, scratchMref := none
            outcome := some ⟨some .loaded, .failed, some .span, some q, some m, some b.val, none⟩ }
          ∧ ∀ p, (t.ex.pending.get p).getLsbD 3 = true)
      ∧ (∀ tare, s.cu.scratchTare = some tare → s.cu.cal = .loadedLift → q = 8 → clean →
        (∀ c, 10000 ≤ force c - tare.get c) →
        t.cu = { s.cu with
            table := .valid, origin := some .calibrated, tare := tare, loaded := t.cu.loaded, mref := s.cu.scratchMref
            cal := .idle, scratchTare := none, scratchLoaded := none, scratchMref := none
            outcome := some ⟨some .loaded, .done, none, some q, some m, none, none⟩ }
          ∧ (∀ b, t.cu.loaded.get b = force b) ∧ (∀ p, (t.ex.pending.get p).getLsbD 2 = true)
          ∧ t.sd.advisories = withAdvisory .calDone s.sd.advisories ∧ t.we.zt = s.we.zt)
      ∧ (s.cu.cal = .zeroLift → -2000 ≤ correctedMass s.cu s.we → correctedMass s.cu s.we ≤ 2000 →
        t.cu = { s.cu with
            cal := .idle, scratchTare := none, scratchLoaded := none, scratchMref := none
            outcome := some ⟨some .zero, .done, none, some q, some m, none, some (correctedMass s.cu s.we)⟩ }
          ∧ t.we.zt = correctedMass s.cu s.we ∧ ∀ p, (t.ex.pending.get p).getLsbD 2 = true)
      ∧ (s.cu.cal = .zeroLift → correctedMass s.cu s.we < -2000 ∨ 2000 < correctedMass s.cu s.we →
        t.cu.cal = .idle ∧ t.cu.table = s.cu.table ∧ t.we.zt = s.we.zt
          ∧ (∃ o, t.cu.outcome = some o ∧ o.lift = some .zero ∧ o.result = .failed ∧ o.cause = some .zero
            ∧ o.q = some q ∧ o.marks = some m)
          ∧ ∀ p, (t.ex.pending.get p).getLsbD 3 = true)
      ∧ (s.cu.cal = .tareArmed ∨ s.cu.cal = .loadedWait ∨ s.cu.cal = .loadedArmed ∨ s.cu.cal = .zeroArmed →
        t.cu = s.cu ∧ t.sd = s.sd)

/-- Messages. DEPOSIT_MESSAGE: SLOT_FULL while the outbound slot is FULL; a length above 64 is BAD_PARAM naming field 0; else the
message is stored with SHOW as carried, at the end of the store order, with MSG_ARRIVED to the recipient and its length as the
reply. READ_MESSAGE: NO_MESSAGE on an EMPTY inbound slot; else the message, the slot EMPTY and out of the store order, and
MSG_TAKEN to the sender (R159, R160, R162, R180). -/
def Obligations.Messages : Prop :=
  ∀ (p : Port) (length showFlag : Byte) (bytes : List Byte) (s : State), s.ready p → lengthAgrees length bytes = true →
    (s.ex.slots.get p ≠ none →
        exec (.depositMessage p length showFlag bytes) s = .next (State.answered p .slotFull [] s))
      ∧ (s.ex.slots.get p = none → 64 < length.toNat →
        exec (.depositMessage p length showFlag bytes) s =
          .next (State.answered p .badParam [0] { s with ex.deposits := s.ex.deposits.set p none }))
      ∧ (s.ex.slots.get p = none → length.toNat ≤ 64 →
        exec (.depositMessage p length showFlag bytes) s =
          .next (State.answered p .ok [if length = 0 then 64 else length] { s with
            ex.deposits := s.ex.deposits.set p none
            ex.slots := s.ex.slots.set p (some ⟨bytes, showFlag.getLsbD 0, false, false⟩)
            ex.storeOrder := s.ex.storeOrder ++ [p]
            ex.pending := s.ex.pending.set (other p) (s.ex.pending.get (other p) ||| 0x0400) }))
      ∧ (s.ex.slots.get (other p) = none → exec (.readMessage p) s = .next (State.answered p .noMessage [] s))
      ∧ ∀ m, s.ex.slots.get (other p) = some m →
        exec (.readMessage p) s = .next (State.answered p .ok
          (BitVec.ofNat 8 m.bytes.length
            :: ((if m.showFlag then 1 else 0) + (if m.truncated then 2 else 0) + if m.acked then 4 else 0) :: m.bytes)
          { s with
            ex.slots := s.ex.slots.set (other p) none
            ex.storeOrder := s.ex.storeOrder.filter fun q => decide (q ≠ other p)
            ex.pending := s.ex.pending.set (other p) (s.ex.pending.get (other p) ||| 0x0800) })

/-- The notice orders, each on the issuing port's own set. TOP_NOTICE: the lowest priority number that is both pending and
enabled, or 0xFF, nothing changed. CLEAR_NOTICES: the pending flags in the mask are cleared, and the reply is what is left.
ENABLE_NOTICES replaces the enables and replies with them and ATN. READ_NOTICES reports both sets, the slots and the hold
(R165 to R168). -/
def Obligations.NoticeOrders : Prop :=
  ∀ (p : Port) (set : BitVec 16) (s : State), s.ready p →
    (∀ k < 16, (s.ex.pending.get p).getLsbD k = true → (s.ex.enable.get p).getLsbD k = true →
        (∀ j < k, (s.ex.pending.get p).getLsbD j = false ∨ (s.ex.enable.get p).getLsbD j = false) →
        exec (.topNotice p) s = .next (State.answered p .ok [BitVec.ofNat 8 k] s))
      ∧ ((∀ j < 16, (s.ex.pending.get p).getLsbD j = false ∨ (s.ex.enable.get p).getLsbD j = false) →
        exec (.topNotice p) s = .next (State.answered p .ok [0xFF] s) ∧ s.atn p = false)
      ∧ ((∃ j < 16, (s.ex.pending.get p).getLsbD j = true ∧ (s.ex.enable.get p).getLsbD j = true) → s.atn p = true)
      ∧ exec (.clearNotices p set) s = .next (State.answered p .ok
          [(s.ex.pending.get p &&& ~~~set).extractLsb' 8 8, (s.ex.pending.get p &&& ~~~set).extractLsb' 0 8]
          { s with ex.pending := s.ex.pending.set p (s.ex.pending.get p &&& ~~~set) })
      ∧ exec (.enableNotices p set) s = .next (State.answered p .ok
          [set.extractLsb' 8 8, set.extractLsb' 0 8, if s.ex.pending.get p &&& set = 0 then 0 else 1]
          { s with ex.enable := s.ex.enable.set p set })
      ∧ exec (.readNotices p) s = .next (State.answered p .ok
          (bytes16 (s.ex.pending.get p) ++ bytes16 (s.ex.enable.get p)
            ++ [Port.a, Port.b].flatMap (fun q : Port => match s.ex.slots.get q with
              | none => ([0, 0] : List Byte)
              | some m => [if m.acked then 3 else 1, BitVec.ofNat 8 m.bytes.length])
            ++ [match s.ex.hold with
              | none => (0 : Byte)
              | some .a => 1
              | some .b => 2]) s)

/-! ### What every step keeps -/

/-- Every step, from every state, keeps the thresholds in their order, the records in force with each other and with those pending
(3.1.1, R50, R73, R76), and keeps the calibration table and the scratch table as R78 and R80 say they are. -/
def Obligations.StepKeepsRecords : Prop :=
  ∀ s t : State, step s = .next t →
    (s.thresholdsSound → t.thresholdsSound) ∧ (s.calibrationSound → t.calibrationSound)

/-- Every step, from every state, keeps the tally: the open load's total the sum of its credited masses and its state that of
R102, at most 12 passes in a load and 32 records in the queue, every record sound, and the load numbers in the part following
one another, so that no two records of the queue carry one number (R100 to R102, R109, R121, R122). -/
def Obligations.StepKeepsTally : Prop :=
  ∀ s t : State, step s = .next t → s.tallySound → t.tallySound ∧ (t.lq.queue.map fun c => c.load.number).Nodup

/-- Every step, from every state, keeps the tracker in agreement with sampling, with the weigh window and with its timers, and the
hold in agreement with its idle timer and with a running calibration, which holds it and has no pass held (1.1.1, R44, R54,
R80, R154). -/
def Obligations.StepKeepsTracker : Prop :=
  ∀ s t : State, step s = .next t → (s.trackerSound → t.trackerSound) ∧ (s.holdSound → t.holdSound)

/-- Every step, from every state, keeps the ports and the message slots sound: the items of Table 10-2 agree with the frame state,
a deposit in progress has an EMPTY slot and counts the bytes taken, a message has 1 to 64 bytes, and the store order lists
exactly the FULL slots (R159, R160). -/
def Obligations.StepKeepsExchange : Prop :=
  ∀ s t : State, step s = .next t → s.exchangeSound → t.exchangeSound

/-- Every step, from every state, keeps the bounded buffers within their bounds, the port text layer canonical with the windows
inside it, and the level functions those of R22 with their receivers' copies equal to them (Table 0-2, R15, R22, R52, R148,
R150 to R152). -/
def Obligations.StepKeepsBuffers : Prop :=
  ∀ s t : State, step s = .next t →
    (s.buffersSound → t.buffersSound) ∧ (s.stripSound → t.stripSound) ∧ (s.linesSound → t.linesSound)
end

