-- ==== Sys2Proof/Laws/State.lean ====
section
/-! SUPPORT. The small lemmas of the state's updates: what each leaves alone, and reading one of two, or one of eight, after
writing it. -/

namespace Sys2Proof

@[simp] theorem Eight.get_set {α : Type} (v : Eight α) (i j : Fin 8) (x : α) :
    (v.set i x).get j = if j = i then x else v.get j := by
  revert i j; intro i j
  fin_cases i <;> fin_cases j <;> rfl

@[simp] theorem Eight.get_tabulate {α : Type} (f : Fin 8 → α) (i : Fin 8) : (Eight.tabulate f).get i = f i := by
  fin_cases i <;> rfl

@[simp] theorem Eight.get_fill {α : Type} (x : α) (i : Fin 8) : (Eight.fill x).get i = x := by
  fin_cases i <;> rfl

theorem Eight.ext_get {α : Type} {v w : Eight α} (h : ∀ i, v.get i = w.get i) : v = w := by
  obtain ⟨a0, a1, a2, a3, a4, a5, a6, a7⟩ := v
  obtain ⟨b0, b1, b2, b3, b4, b5, b6, b7⟩ := w
  have h0 := h 0; have h1 := h 1; have h2 := h 2; have h3 := h 3
  have h4 := h 4; have h5 := h 5; have h6 := h 6; have h7 := h 7
  simp only [Eight.get] at h0 h1 h2 h3 h4 h5 h6 h7
  subst h0 h1 h2 h3 h4 h5 h6 h7
  rfl

namespace Machine

@[simp] theorem PerPort.get_set_same {α : Type} (v : PerPort α) (p : Port) (x : α) : (v.set p x).get p = x := by
  cases p <;> rfl

@[simp] theorem PerPort.get_set_other {α : Type} (v : PerPort α) (p : Port) (x : α) :
    (v.set p x).get (other p) = v.get (other p) := by
  cases p <;> rfl

theorem PerPort.get_set {α : Type} (v : PerPort α) (p q : Port) (x : α) :
    (v.set p x).get q = if q = p then x else v.get q := by
  cases p <;> cases q <;> rfl

@[simp] theorem PerPort.set_set {α : Type} (v : PerPort α) (p : Port) (x y : α) : (v.set p x).set p y = v.set p y := by
  cases p <;> rfl

@[simp] theorem PerPort.set_get {α : Type} (v : PerPort α) (p : Port) : v.set p (v.get p) = v := by
  cases p <;> rfl

@[simp] theorem other_other (p : Port) : other (other p) = p := by cases p <;> rfl

@[simp] theorem other_ne (p : Port) : other p ≠ p := by cases p <;> decide

@[simp] theorem ne_other (p : Port) : p ≠ other p := by cases p <;> decide

@[simp] theorem State.raise_sp (p : Port) (k : Notice) (s : State) : (s.raise p k).sp = s.sp := rfl
@[simp] theorem State.raise_lm (p : Port) (k : Notice) (s : State) : (s.raise p k).lm = s.lm := rfl
@[simp] theorem State.raise_ct (p : Port) (k : Notice) (s : State) : (s.raise p k).ct = s.ct := rfl
@[simp] theorem State.raise_we (p : Port) (k : Notice) (s : State) : (s.raise p k).we = s.we := rfl
@[simp] theorem State.raise_cu (p : Port) (k : Notice) (s : State) : (s.raise p k).cu = s.cu := rfl
@[simp] theorem State.raise_lt (p : Port) (k : Notice) (s : State) : (s.raise p k).lt = s.lt := rfl
@[simp] theorem State.raise_lq (p : Port) (k : Notice) (s : State) : (s.raise p k).lq = s.lq := rfl
@[simp] theorem State.raise_sd (p : Port) (k : Notice) (s : State) : (s.raise p k).sd = s.sd := rfl
@[simp] theorem State.raise_ports (p : Port) (k : Notice) (s : State) : (s.raise p k).ports = s.ports := rfl
@[simp] theorem State.raise_held (p : Port) (k : Notice) (s : State) : (s.raise p k).held = s.held := rfl
@[simp] theorem State.raise_choices (p : Port) (k : Notice) (s : State) : (s.raise p k).choices = s.choices := rfl
@[simp] theorem State.raise_pending (p : Port) (k : Notice) (s : State) : (s.raise p k).pending = s.pending := rfl

@[simp] theorem State.raiseBoth_sp (k : Notice) (s : State) : (s.raiseBoth k).sp = s.sp := rfl
@[simp] theorem State.raiseBoth_lm (k : Notice) (s : State) : (s.raiseBoth k).lm = s.lm := rfl
@[simp] theorem State.raiseBoth_ct (k : Notice) (s : State) : (s.raiseBoth k).ct = s.ct := rfl
@[simp] theorem State.raiseBoth_we (k : Notice) (s : State) : (s.raiseBoth k).we = s.we := rfl
@[simp] theorem State.raiseBoth_cu (k : Notice) (s : State) : (s.raiseBoth k).cu = s.cu := rfl
@[simp] theorem State.raiseBoth_lt (k : Notice) (s : State) : (s.raiseBoth k).lt = s.lt := rfl
@[simp] theorem State.raiseBoth_lq (k : Notice) (s : State) : (s.raiseBoth k).lq = s.lq := rfl
@[simp] theorem State.raiseBoth_sd (k : Notice) (s : State) : (s.raiseBoth k).sd = s.sd := rfl
@[simp] theorem State.raiseBoth_ports (k : Notice) (s : State) : (s.raiseBoth k).ports = s.ports := rfl
@[simp] theorem State.raiseBoth_held (k : Notice) (s : State) : (s.raiseBoth k).held = s.held := rfl
@[simp] theorem State.raiseBoth_choices (k : Notice) (s : State) : (s.raiseBoth k).choices = s.choices := rfl
@[simp] theorem State.raiseBoth_pending (k : Notice) (s : State) : (s.raiseBoth k).pending = s.pending := rfl

@[simp] theorem State.setPort_sp (p : Port) (q : Lp) (s : State) : (s.setPort p q).sp = s.sp := rfl
@[simp] theorem State.setPort_lm (p : Port) (q : Lp) (s : State) : (s.setPort p q).lm = s.lm := rfl
@[simp] theorem State.setPort_ct (p : Port) (q : Lp) (s : State) : (s.setPort p q).ct = s.ct := rfl
@[simp] theorem State.setPort_we (p : Port) (q : Lp) (s : State) : (s.setPort p q).we = s.we := rfl
@[simp] theorem State.setPort_cu (p : Port) (q : Lp) (s : State) : (s.setPort p q).cu = s.cu := rfl
@[simp] theorem State.setPort_lt (p : Port) (q : Lp) (s : State) : (s.setPort p q).lt = s.lt := rfl
@[simp] theorem State.setPort_lq (p : Port) (q : Lp) (s : State) : (s.setPort p q).lq = s.lq := rfl
@[simp] theorem State.setPort_sd (p : Port) (q : Lp) (s : State) : (s.setPort p q).sd = s.sd := rfl
@[simp] theorem State.setPort_ex (p : Port) (q : Lp) (s : State) : (s.setPort p q).ex = s.ex := rfl
@[simp] theorem State.setPort_held (p : Port) (q : Lp) (s : State) : (s.setPort p q).held = s.held := rfl
@[simp] theorem State.setPort_choices (p : Port) (q : Lp) (s : State) : (s.setPort p q).choices = s.choices := rfl
@[simp] theorem State.setPort_pending (p : Port) (q : Lp) (s : State) : (s.setPort p q).pending = s.pending := rfl

@[simp] theorem State.storeMessage_sp (p : Port) (m : Message) (s : State) : (s.storeMessage p m).sp = s.sp := rfl
@[simp] theorem State.storeMessage_lm (p : Port) (m : Message) (s : State) : (s.storeMessage p m).lm = s.lm := rfl
@[simp] theorem State.storeMessage_ct (p : Port) (m : Message) (s : State) : (s.storeMessage p m).ct = s.ct := rfl
@[simp] theorem State.storeMessage_we (p : Port) (m : Message) (s : State) : (s.storeMessage p m).we = s.we := rfl
@[simp] theorem State.storeMessage_cu (p : Port) (m : Message) (s : State) : (s.storeMessage p m).cu = s.cu := rfl
@[simp] theorem State.storeMessage_lt (p : Port) (m : Message) (s : State) : (s.storeMessage p m).lt = s.lt := rfl
@[simp] theorem State.storeMessage_lq (p : Port) (m : Message) (s : State) : (s.storeMessage p m).lq = s.lq := rfl
@[simp] theorem State.storeMessage_sd (p : Port) (m : Message) (s : State) : (s.storeMessage p m).sd = s.sd := rfl
@[simp] theorem State.storeMessage_ports (p : Port) (m : Message) (s : State) : (s.storeMessage p m).ports = s.ports := rfl
@[simp] theorem State.storeMessage_held (p : Port) (m : Message) (s : State) : (s.storeMessage p m).held = s.held := rfl
@[simp] theorem State.storeMessage_choices (p : Port) (m : Message) (s : State) : (s.storeMessage p m).choices = s.choices := rfl
@[simp] theorem State.storeMessage_pending (p : Port) (m : Message) (s : State) : (s.storeMessage p m).pending = s.pending := rfl

@[simp] theorem State.giveHold_sp (p : Port) (s : State) : (s.giveHold p).sp = s.sp := rfl
@[simp] theorem State.giveHold_lm (p : Port) (s : State) : (s.giveHold p).lm = s.lm := rfl
@[simp] theorem State.giveHold_ct (p : Port) (s : State) : (s.giveHold p).ct = s.ct := rfl
@[simp] theorem State.giveHold_we (p : Port) (s : State) : (s.giveHold p).we = s.we := rfl
@[simp] theorem State.giveHold_cu (p : Port) (s : State) : (s.giveHold p).cu = s.cu := rfl
@[simp] theorem State.giveHold_lt (p : Port) (s : State) : (s.giveHold p).lt = s.lt := rfl
@[simp] theorem State.giveHold_lq (p : Port) (s : State) : (s.giveHold p).lq = s.lq := rfl
@[simp] theorem State.giveHold_sd (p : Port) (s : State) : (s.giveHold p).sd = s.sd := rfl
@[simp] theorem State.giveHold_ports (p : Port) (s : State) : (s.giveHold p).ports = s.ports := rfl
@[simp] theorem State.giveHold_held (p : Port) (s : State) : (s.giveHold p).held = s.held := rfl
@[simp] theorem State.giveHold_choices (p : Port) (s : State) : (s.giveHold p).choices = s.choices := rfl
@[simp] theorem State.giveHold_pending (p : Port) (s : State) : (s.giveHold p).pending = s.pending := rfl

@[simp] theorem State.countCycle_sp (t : Nat) (s : State) : (s.countCycle t).sp = s.sp := rfl
@[simp] theorem State.countCycle_lm (t : Nat) (s : State) : (s.countCycle t).lm = s.lm := rfl
@[simp] theorem State.countCycle_ct (t : Nat) (s : State) : (s.countCycle t).ct = s.ct := rfl
@[simp] theorem State.countCycle_we (t : Nat) (s : State) : (s.countCycle t).we = s.we := rfl
@[simp] theorem State.countCycle_cu (t : Nat) (s : State) : (s.countCycle t).cu = s.cu := rfl
@[simp] theorem State.countCycle_lt (t : Nat) (s : State) : (s.countCycle t).lt = s.lt := rfl
@[simp] theorem State.countCycle_sd (t : Nat) (s : State) : (s.countCycle t).sd = s.sd := rfl
@[simp] theorem State.countCycle_ex (t : Nat) (s : State) : (s.countCycle t).ex = s.ex := rfl
@[simp] theorem State.countCycle_ports (t : Nat) (s : State) : (s.countCycle t).ports = s.ports := rfl
@[simp] theorem State.countCycle_held (t : Nat) (s : State) : (s.countCycle t).held = s.held := rfl
@[simp] theorem State.countCycle_choices (t : Nat) (s : State) : (s.countCycle t).choices = s.choices := rfl
@[simp] theorem State.countCycle_pending (t : Nat) (s : State) : (s.countCycle t).pending = s.pending := rfl

@[simp] theorem State.countCredit_sp (s : State) : (s.countCredit).sp = s.sp := rfl
@[simp] theorem State.countCredit_lm (s : State) : (s.countCredit).lm = s.lm := rfl
@[simp] theorem State.countCredit_ct (s : State) : (s.countCredit).ct = s.ct := rfl
@[simp] theorem State.countCredit_we (s : State) : (s.countCredit).we = s.we := rfl
@[simp] theorem State.countCredit_cu (s : State) : (s.countCredit).cu = s.cu := rfl
@[simp] theorem State.countCredit_lt (s : State) : (s.countCredit).lt = s.lt := rfl
@[simp] theorem State.countCredit_sd (s : State) : (s.countCredit).sd = s.sd := rfl
@[simp] theorem State.countCredit_ex (s : State) : (s.countCredit).ex = s.ex := rfl
@[simp] theorem State.countCredit_ports (s : State) : (s.countCredit).ports = s.ports := rfl
@[simp] theorem State.countCredit_held (s : State) : (s.countCredit).held = s.held := rfl
@[simp] theorem State.countCredit_choices (s : State) : (s.countCredit).choices = s.choices := rfl
@[simp] theorem State.countCredit_pending (s : State) : (s.countCredit).pending = s.pending := rfl

@[simp] theorem State.countDiscard_sp (s : State) : (s.countDiscard).sp = s.sp := rfl
@[simp] theorem State.countDiscard_lm (s : State) : (s.countDiscard).lm = s.lm := rfl
@[simp] theorem State.countDiscard_ct (s : State) : (s.countDiscard).ct = s.ct := rfl
@[simp] theorem State.countDiscard_we (s : State) : (s.countDiscard).we = s.we := rfl
@[simp] theorem State.countDiscard_cu (s : State) : (s.countDiscard).cu = s.cu := rfl
@[simp] theorem State.countDiscard_lt (s : State) : (s.countDiscard).lt = s.lt := rfl
@[simp] theorem State.countDiscard_sd (s : State) : (s.countDiscard).sd = s.sd := rfl
@[simp] theorem State.countDiscard_ex (s : State) : (s.countDiscard).ex = s.ex := rfl
@[simp] theorem State.countDiscard_ports (s : State) : (s.countDiscard).ports = s.ports := rfl
@[simp] theorem State.countDiscard_held (s : State) : (s.countDiscard).held = s.held := rfl
@[simp] theorem State.countDiscard_choices (s : State) : (s.countDiscard).choices = s.choices := rfl
@[simp] theorem State.countDiscard_pending (s : State) : (s.countDiscard).pending = s.pending := rfl

@[simp] theorem State.countUndo_sp (s : State) : (s.countUndo).sp = s.sp := rfl
@[simp] theorem State.countUndo_lm (s : State) : (s.countUndo).lm = s.lm := rfl
@[simp] theorem State.countUndo_ct (s : State) : (s.countUndo).ct = s.ct := rfl
@[simp] theorem State.countUndo_we (s : State) : (s.countUndo).we = s.we := rfl
@[simp] theorem State.countUndo_cu (s : State) : (s.countUndo).cu = s.cu := rfl
@[simp] theorem State.countUndo_lt (s : State) : (s.countUndo).lt = s.lt := rfl
@[simp] theorem State.countUndo_sd (s : State) : (s.countUndo).sd = s.sd := rfl
@[simp] theorem State.countUndo_ex (s : State) : (s.countUndo).ex = s.ex := rfl
@[simp] theorem State.countUndo_ports (s : State) : (s.countUndo).ports = s.ports := rfl
@[simp] theorem State.countUndo_held (s : State) : (s.countUndo).held = s.held := rfl
@[simp] theorem State.countUndo_choices (s : State) : (s.countUndo).choices = s.choices := rfl
@[simp] theorem State.countUndo_pending (s : State) : (s.countUndo).pending = s.pending := rfl

@[simp] theorem State.countAbort_sp (s : State) : (s.countAbort).sp = s.sp := rfl
@[simp] theorem State.countAbort_lm (s : State) : (s.countAbort).lm = s.lm := rfl
@[simp] theorem State.countAbort_ct (s : State) : (s.countAbort).ct = s.ct := rfl
@[simp] theorem State.countAbort_we (s : State) : (s.countAbort).we = s.we := rfl
@[simp] theorem State.countAbort_cu (s : State) : (s.countAbort).cu = s.cu := rfl
@[simp] theorem State.countAbort_lt (s : State) : (s.countAbort).lt = s.lt := rfl
@[simp] theorem State.countAbort_sd (s : State) : (s.countAbort).sd = s.sd := rfl
@[simp] theorem State.countAbort_ex (s : State) : (s.countAbort).ex = s.ex := rfl
@[simp] theorem State.countAbort_ports (s : State) : (s.countAbort).ports = s.ports := rfl
@[simp] theorem State.countAbort_held (s : State) : (s.countAbort).held = s.held := rfl
@[simp] theorem State.countAbort_choices (s : State) : (s.countAbort).choices = s.choices := rfl
@[simp] theorem State.countAbort_pending (s : State) : (s.countAbort).pending = s.pending := rfl

@[simp] theorem State.countClose_sp (n : Nat) (s : State) : (s.countClose n).sp = s.sp := rfl
@[simp] theorem State.countClose_lm (n : Nat) (s : State) : (s.countClose n).lm = s.lm := rfl
@[simp] theorem State.countClose_ct (n : Nat) (s : State) : (s.countClose n).ct = s.ct := rfl
@[simp] theorem State.countClose_we (n : Nat) (s : State) : (s.countClose n).we = s.we := rfl
@[simp] theorem State.countClose_cu (n : Nat) (s : State) : (s.countClose n).cu = s.cu := rfl
@[simp] theorem State.countClose_lt (n : Nat) (s : State) : (s.countClose n).lt = s.lt := rfl
@[simp] theorem State.countClose_sd (n : Nat) (s : State) : (s.countClose n).sd = s.sd := rfl
@[simp] theorem State.countClose_ex (n : Nat) (s : State) : (s.countClose n).ex = s.ex := rfl
@[simp] theorem State.countClose_ports (n : Nat) (s : State) : (s.countClose n).ports = s.ports := rfl
@[simp] theorem State.countClose_held (n : Nat) (s : State) : (s.countClose n).held = s.held := rfl
@[simp] theorem State.countClose_choices (n : Nat) (s : State) : (s.countClose n).choices = s.choices := rfl
@[simp] theorem State.countClose_pending (n : Nat) (s : State) : (s.countClose n).pending = s.pending := rfl

@[simp] theorem State.recomputeLoad_sp (s : State) : (s.recomputeLoad).sp = s.sp := rfl
@[simp] theorem State.recomputeLoad_lm (s : State) : (s.recomputeLoad).lm = s.lm := rfl
@[simp] theorem State.recomputeLoad_ct (s : State) : (s.recomputeLoad).ct = s.ct := rfl
@[simp] theorem State.recomputeLoad_we (s : State) : (s.recomputeLoad).we = s.we := rfl
@[simp] theorem State.recomputeLoad_cu (s : State) : (s.recomputeLoad).cu = s.cu := rfl
@[simp] theorem State.recomputeLoad_lq (s : State) : (s.recomputeLoad).lq = s.lq := rfl
@[simp] theorem State.recomputeLoad_sd (s : State) : (s.recomputeLoad).sd = s.sd := rfl
@[simp] theorem State.recomputeLoad_ex (s : State) : (s.recomputeLoad).ex = s.ex := rfl
@[simp] theorem State.recomputeLoad_ports (s : State) : (s.recomputeLoad).ports = s.ports := rfl
@[simp] theorem State.recomputeLoad_held (s : State) : (s.recomputeLoad).held = s.held := rfl
@[simp] theorem State.recomputeLoad_choices (s : State) : (s.recomputeLoad).choices = s.choices := rfl
@[simp] theorem State.recomputeLoad_pending (s : State) : (s.recomputeLoad).pending = s.pending := rfl

@[simp] theorem State.appendPass_sp (x : Pass) (s : State) : (s.appendPass x).sp = s.sp := rfl
@[simp] theorem State.appendPass_lm (x : Pass) (s : State) : (s.appendPass x).lm = s.lm := rfl
@[simp] theorem State.appendPass_ct (x : Pass) (s : State) : (s.appendPass x).ct = s.ct := rfl
@[simp] theorem State.appendPass_we (x : Pass) (s : State) : (s.appendPass x).we = s.we := rfl
@[simp] theorem State.appendPass_cu (x : Pass) (s : State) : (s.appendPass x).cu = s.cu := rfl
@[simp] theorem State.appendPass_lq (x : Pass) (s : State) : (s.appendPass x).lq = s.lq := rfl
@[simp] theorem State.appendPass_sd (x : Pass) (s : State) : (s.appendPass x).sd = s.sd := rfl
@[simp] theorem State.appendPass_ex (x : Pass) (s : State) : (s.appendPass x).ex = s.ex := rfl
@[simp] theorem State.appendPass_ports (x : Pass) (s : State) : (s.appendPass x).ports = s.ports := rfl
@[simp] theorem State.appendPass_held (x : Pass) (s : State) : (s.appendPass x).held = s.held := rfl
@[simp] theorem State.appendPass_choices (x : Pass) (s : State) : (s.appendPass x).choices = s.choices := rfl
@[simp] theorem State.appendPass_pending (x : Pass) (s : State) : (s.appendPass x).pending = s.pending := rfl

@[simp] theorem State.openNextLoad_sp (s : State) : (s.openNextLoad).sp = s.sp := rfl
@[simp] theorem State.openNextLoad_lm (s : State) : (s.openNextLoad).lm = s.lm := rfl
@[simp] theorem State.openNextLoad_ct (s : State) : (s.openNextLoad).ct = s.ct := rfl
@[simp] theorem State.openNextLoad_we (s : State) : (s.openNextLoad).we = s.we := rfl
@[simp] theorem State.openNextLoad_cu (s : State) : (s.openNextLoad).cu = s.cu := rfl
@[simp] theorem State.openNextLoad_lq (s : State) : (s.openNextLoad).lq = s.lq := rfl
@[simp] theorem State.openNextLoad_sd (s : State) : (s.openNextLoad).sd = s.sd := rfl
@[simp] theorem State.openNextLoad_ex (s : State) : (s.openNextLoad).ex = s.ex := rfl
@[simp] theorem State.openNextLoad_ports (s : State) : (s.openNextLoad).ports = s.ports := rfl
@[simp] theorem State.openNextLoad_held (s : State) : (s.openNextLoad).held = s.held := rfl
@[simp] theorem State.openNextLoad_choices (s : State) : (s.openNextLoad).choices = s.choices := rfl
@[simp] theorem State.openNextLoad_pending (s : State) : (s.openNextLoad).pending = s.pending := rfl

@[simp] theorem State.calIdle_sp (s : State) : (s.calIdle).sp = s.sp := rfl
@[simp] theorem State.calIdle_lm (s : State) : (s.calIdle).lm = s.lm := rfl
@[simp] theorem State.calIdle_ct (s : State) : (s.calIdle).ct = s.ct := rfl
@[simp] theorem State.calIdle_we (s : State) : (s.calIdle).we = s.we := rfl
@[simp] theorem State.calIdle_lt (s : State) : (s.calIdle).lt = s.lt := rfl
@[simp] theorem State.calIdle_lq (s : State) : (s.calIdle).lq = s.lq := rfl
@[simp] theorem State.calIdle_sd (s : State) : (s.calIdle).sd = s.sd := rfl
@[simp] theorem State.calIdle_ex (s : State) : (s.calIdle).ex = s.ex := rfl
@[simp] theorem State.calIdle_ports (s : State) : (s.calIdle).ports = s.ports := rfl
@[simp] theorem State.calIdle_held (s : State) : (s.calIdle).held = s.held := rfl
@[simp] theorem State.calIdle_choices (s : State) : (s.calIdle).choices = s.choices := rfl
@[simp] theorem State.calIdle_pending (s : State) : (s.calIdle).pending = s.pending := rfl

@[simp] theorem State.enter_sp (t : Tracker) (s : State) : (s.enter t).sp = s.sp := rfl
@[simp] theorem State.enter_lm (t : Tracker) (s : State) : (s.enter t).lm = s.lm := rfl
@[simp] theorem State.enter_we (t : Tracker) (s : State) : (s.enter t).we = s.we := rfl
@[simp] theorem State.enter_cu (t : Tracker) (s : State) : (s.enter t).cu = s.cu := rfl
@[simp] theorem State.enter_lt (t : Tracker) (s : State) : (s.enter t).lt = s.lt := rfl
@[simp] theorem State.enter_lq (t : Tracker) (s : State) : (s.enter t).lq = s.lq := rfl
@[simp] theorem State.enter_sd (t : Tracker) (s : State) : (s.enter t).sd = s.sd := rfl
@[simp] theorem State.enter_ex (t : Tracker) (s : State) : (s.enter t).ex = s.ex := rfl
@[simp] theorem State.enter_ports (t : Tracker) (s : State) : (s.enter t).ports = s.ports := rfl
@[simp] theorem State.enter_held (t : Tracker) (s : State) : (s.enter t).held = s.held := rfl
@[simp] theorem State.enter_choices (t : Tracker) (s : State) : (s.enter t).choices = s.choices := rfl
@[simp] theorem State.enter_pending (t : Tracker) (s : State) : (s.enter t).pending = s.pending := rfl

@[simp] theorem State.tickTimers_lm (s : State) : (s.tickTimers).lm = s.lm := rfl
@[simp] theorem State.tickTimers_we (s : State) : (s.tickTimers).we = s.we := rfl
@[simp] theorem State.tickTimers_cu (s : State) : (s.tickTimers).cu = s.cu := rfl
@[simp] theorem State.tickTimers_ports (s : State) : (s.tickTimers).ports = s.ports := rfl
@[simp] theorem State.tickTimers_held (s : State) : (s.tickTimers).held = s.held := rfl
@[simp] theorem State.tickTimers_choices (s : State) : (s.tickTimers).choices = s.choices := rfl
@[simp] theorem State.tickTimers_pending (s : State) : (s.tickTimers).pending = s.pending := rfl

@[simp] theorem State.withCommand_sp (c : Instr) (s : State) : (s.withCommand c).sp = s.sp := rfl
@[simp] theorem State.withCommand_lm (c : Instr) (s : State) : (s.withCommand c).lm = s.lm := rfl
@[simp] theorem State.withCommand_ct (c : Instr) (s : State) : (s.withCommand c).ct = s.ct := rfl
@[simp] theorem State.withCommand_we (c : Instr) (s : State) : (s.withCommand c).we = s.we := rfl
@[simp] theorem State.withCommand_cu (c : Instr) (s : State) : (s.withCommand c).cu = s.cu := rfl
@[simp] theorem State.withCommand_lt (c : Instr) (s : State) : (s.withCommand c).lt = s.lt := rfl
@[simp] theorem State.withCommand_lq (c : Instr) (s : State) : (s.withCommand c).lq = s.lq := rfl
@[simp] theorem State.withCommand_sd (c : Instr) (s : State) : (s.withCommand c).sd = s.sd := rfl
@[simp] theorem State.withCommand_ex (c : Instr) (s : State) : (s.withCommand c).ex = s.ex := rfl
@[simp] theorem State.withCommand_ports (c : Instr) (s : State) : (s.withCommand c).ports = s.ports := rfl
@[simp] theorem State.withCommand_held (c : Instr) (s : State) : (s.withCommand c).held = s.held := rfl
@[simp] theorem State.withCommand_choices (c : Instr) (s : State) : (s.withCommand c).choices = s.choices := rfl

end Machine

end Sys2Proof
end

