-- ==== Sys2Proof/Laws/Frames.lean ====
section
/-! SUPPORT. One frame for each operation that branches: it is the state it is given with new values in the fields named, and in
no others. -/

namespace Sys2Proof.Machine

open Sys2Proof

/-! ### Shared operations -/

theorem State.queueAdvisory_frame (x : Advisory) (s : State) :
    ∃ a t h, s.queueAdvisory x = { s with sd.advisories := a, sd.holdTimer := t, sd.holdTime := h } := by
  unfold State.queueAdvisory
  split
  · exact ⟨_, _, _, rfl⟩
  · split <;> exact ⟨_, _, _, rfl⟩

theorem State.endTrace_frame (s : State) : ∃ m, s.endTrace = { s with sp.trace.mode := m } := by
  unfold State.endTrace
  split <;> exact ⟨_, rfl⟩

theorem State.restartHold_frame (p : Port) (s : State) : ∃ t, s.restartHold p = { s with ex.holdTimer := t } := by
  unfold State.restartHold
  split <;> exact ⟨_, rfl⟩

theorem State.abandonDeposit_frame (p : Port) (ps : List Byte) (s : State) :
    ∃ a b c d, s.abandonDeposit p ps =
      { s with ex.slots := a, ex.storeOrder := b, ex.deposits := c, ex.pending := d } := by
  unfold State.abandonDeposit
  split
  · exact ⟨_, _, _, _, rfl⟩
  · split <;> exact ⟨_, _, _, _, rfl⟩

theorem State.abandon_frame (p : Port) (s : State) :
    ∃ a b c d q, s.abandon p =
      { s with ex.slots := a, ex.storeOrder := b, ex.deposits := c, ex.pending := d, ports := q } := by
  unfold State.abandon
  dsimp only
  split
  · exact ⟨_, _, _, _, _, rfl⟩
  · obtain ⟨a, b, c, d, h⟩ :=
      State.abandonDeposit_frame p (s.ports.get p).paramsTaken s
    rw [h]
    exact ⟨_, _, _, _, _, rfl⟩

/-! ### The queue and the tally -/

theorem State.enqueue_frame (c : ClosedLoad) (s : State) :
    ∃ q n e, s.enqueue c = { s with lq.queue := q, lq.counters := n, ex.pending := e } := by
  unfold State.enqueue
  split <;> exact ⟨_, _, _, rfl⟩

theorem State.shiftSecond_frame (s : State) :
    ∃ n t, s.shiftSecond = { s with lq.counters := n, lq.shiftTimer := t } := by
  unfold State.shiftSecond
  split <;> exact ⟨_, _, rfl⟩

theorem State.acceptPass_frame (x : Pass) (s : State) : ∃ h, s.acceptPass x = { s with lt.held := h } := by
  unfold State.acceptPass
  split <;> exact ⟨_, rfl⟩

theorem State.tipOff_frame (s : State) :
    ∃ x a t h, s.tipOff = { s with lt.held := x, sd.advisories := a, sd.holdTimer := t, sd.holdTime := h } := by
  unfold State.tipOff
  split
  · exact ⟨_, _, _, _, rfl⟩
  · rename_i x _
    obtain ⟨a, t, h, e⟩ := State.queueAdvisory_frame .reWeigh
      { s with lt.held := some { x with flags := { x.flags with tipped := true } } }
    rw [e]
    exact ⟨_, _, _, _, rfl⟩

theorem State.discardPass_frame (s : State) :
    ∃ x n, s.discardPass = { s with lt.held := x, lq.counters := n } := by
  unfold State.discardPass
  split <;> exact ⟨_, _, rfl⟩

theorem State.announceLoad_frame (old : LoadState) (s : State) :
    ∃ e a t h, s.announceLoad old =
      { s with ex.pending := e, sd.advisories := a, sd.holdTimer := t, sd.holdTime := h } := by
  unfold State.announceLoad
  split
  · exact ⟨_, _, _, _, rfl⟩
  · split
    · obtain ⟨a, t, h, e⟩ := State.queueAdvisory_frame .targetReached (s.raiseBoth .target)
      rw [e]; exact ⟨_, _, _, _, rfl⟩
    · obtain ⟨a, t, h, e⟩ := State.queueAdvisory_frame .overload (s.raiseBoth .over)
      rw [e]; exact ⟨_, _, _, _, rfl⟩
    · exact ⟨_, _, _, _, rfl⟩

/-- A close writes the open load, its timer, the numbering, the assignment, the queue, the counters, the notices and the advisory
queue (R108). -/
theorem State.closeLoad_frame (c : CloseCause) (s : State) :
    ∃ l dt nn nt q n e a t h, s.closeLoad c =
      { s with lt.load := l, lt.durationTimer := dt, lt.nextNumber := nn, lt.nextTruck := nt, lq.queue := q,
               lq.counters := n, ex.pending := e, sd.advisories := a, sd.holdTimer := t, sd.holdTime := h } := by
  unfold State.closeLoad
  obtain ⟨q, n, e, h1⟩ := State.enqueue_frame (closedRecord c s.lt.load) (s.countClose s.lt.load.total)
  rw [h1]
  generalize hm : State.raiseBoth .loadClosed _ = m
  obtain ⟨a, t, h, h2⟩ := State.queueAdvisory_frame (.loadClosed s.lt.load.number) m
  rw [h2]
  subst hm
  exact ⟨_, _, _, _, _, _, _, _, _, _, rfl⟩

theorem State.makeRoom_frame (s : State) :
    ∃ l dt nn nt q n e a t h, s.makeRoom =
      { s with lt.load := l, lt.durationTimer := dt, lt.nextNumber := nn, lt.nextTruck := nt, lq.queue := q,
               lq.counters := n, ex.pending := e, sd.advisories := a, sd.holdTimer := t, sd.holdTime := h } := by
  unfold State.makeRoom
  split
  · exact ⟨_, _, _, _, _, _, _, _, _, _, rfl⟩
  · exact State.closeLoad_frame _ s

theorem State.autoClose_frame (s : State) :
    ∃ l dt nn nt q n e a t h, s.autoClose =
      { s with lt.load := l, lt.durationTimer := dt, lt.nextNumber := nn, lt.nextTruck := nt, lq.queue := q,
               lq.counters := n, ex.pending := e, sd.advisories := a, sd.holdTimer := t, sd.holdTime := h } := by
  unfold State.autoClose
  split
  · exact State.closeLoad_frame _ s
  · exact ⟨_, _, _, _, _, _, _, _, _, _, rfl⟩

theorem State.nextTruckEvent_frame (s : State) :
    ∃ l dt nn nt q n e a t h, s.nextTruckEvent =
      { s with lt.load := l, lt.durationTimer := dt, lt.nextNumber := nn, lt.nextTruck := nt, lq.queue := q,
               lq.counters := n, ex.pending := e, sd.advisories := a, sd.holdTimer := t, sd.holdTime := h } := by
  unfold State.nextTruckEvent
  split
  · exact ⟨_, _, _, _, _, _, _, _, _, _, rfl⟩
  · exact State.closeLoad_frame _ s

theorem State.shiftClose_frame (s : State) :
    ∃ l dt nn nt q n e a t h, s.shiftClose =
      { s with lt.load := l, lt.durationTimer := dt, lt.nextNumber := nn, lt.nextTruck := nt, lq.queue := q,
               lq.counters := n, ex.pending := e, sd.advisories := a, sd.holdTimer := t, sd.holdTime := h } := by
  unfold State.shiftClose
  split
  · exact ⟨_, _, _, _, _, _, _, _, _, _, rfl⟩
  · exact State.closeLoad_frame _ s

/-- A credit writes what a close writes, and the held pass (R104). -/
theorem State.credit_frame (s : State) :
    ∃ x l dt nn nt q n e a t h, s.credit =
      { s with lt.held := x, lt.load := l, lt.durationTimer := dt, lt.nextNumber := nn, lt.nextTruck := nt,
               lq.queue := q, lq.counters := n, ex.pending := e, sd.advisories := a, sd.holdTimer := t,
               sd.holdTime := h } := by
  unfold State.credit
  split
  · exact ⟨_, _, _, _, _, _, _, _, _, _, _, rfl⟩
  · rename_i x _
    obtain ⟨l, dt, nn, nt, q, n, e, a, t, h, h1⟩ := State.makeRoom_frame s
    simp only
    rw [h1]
    generalize hm : State.recomputeLoad _ = m
    obtain ⟨e2, a2, t2, h2, h3⟩ := State.announceLoad_frame l.state m
    simp only [h3]
    obtain ⟨l4, dt4, nn4, nt4, q4, n4, e4, a4, t4, h4, h5⟩ := State.autoClose_frame
      { m with ex.pending := e2, sd.advisories := a2, sd.holdTimer := t2, sd.holdTime := h2 }
    rw [h5]
    subst hm
    exact ⟨_, _, _, _, _, _, _, _, _, _, _, rfl⟩

theorem State.undoPass_frame (s : State) :
    ∃ l dt n, s.undoPass = { s with lt.load := l, lt.durationTimer := dt, lq.counters := n } := by
  unfold State.undoPass
  split <;> exact ⟨_, _, _, rfl⟩

theorem State.loadSecond_frame (s : State) :
    ∃ l dt, s.loadSecond = { s with lt.load := l, lt.durationTimer := dt } := by
  unfold State.loadSecond
  split <;> exact ⟨_, _, rfl⟩

/-! ### Calibration and weighing -/

theorem State.calFail_frame (o : CalOutcome) (s : State) :
    ∃ e a t h, s.calFail o =
      { s with cu.outcome := some o, ex.pending := e, sd.advisories := a, sd.holdTimer := t, sd.holdTime := h } := by
  unfold State.calFail
  generalize hm : State.raiseBoth .calFailed _ = m
  obtain ⟨a, t, h, h1⟩ := State.queueAdvisory_frame .calFailed m
  rw [h1]; subst hm
  exact ⟨_, _, _, _, rfl⟩

theorem State.calDone_frame (o : CalOutcome) (s : State) :
    ∃ e a t h, s.calDone o =
      { s with cu.outcome := some o, ex.pending := e, sd.advisories := a, sd.holdTimer := t, sd.holdTime := h } := by
  unfold State.calDone
  generalize hm : State.raiseBoth .calDone _ = m
  obtain ⟨a, t, h, h1⟩ := State.queueAdvisory_frame .calDone m
  rw [h1]; subst hm
  exact ⟨_, _, _, _, rfl⟩

/-- An abandonment writes the calibration unit, the notices and the advisory queue (R91 to R93). -/
theorem State.abandonCal_frame (c : CalCause) (s : State) :
    ∃ u e a t h, s.abandonCal c =
      { s with cu := u, ex.pending := e, sd.advisories := a, sd.holdTimer := t, sd.holdTime := h } := by
  unfold State.abandonCal
  split
  · exact ⟨_, _, _, _, _, rfl⟩
  · obtain ⟨e, a, t, h, h1⟩ := State.calFail_frame (abandonOutcome c) s.calIdle
    rw [h1]; exact ⟨_, _, _, _, _, rfl⟩

theorem State.geometryChange_frame (s : State) :
    ∃ u e a t h, s.geometryChange =
      { s with cu := u, ex.pending := e, sd.advisories := a, sd.holdTimer := t, sd.holdTime := h } := by
  unfold State.geometryChange
  generalize hm : (if s.cu.table = .valid then { s with cu.table := .stale } else s) = m
  obtain ⟨u, e, a, t, h, h1⟩ := State.abandonCal_frame .settings m
  rw [h1]; subst hm
  split <;> exact ⟨_, _, _, _, _, rfl⟩

theorem State.tareResult_frame (q : Nat) (s : State) :
    ∃ u e a t h, s.tareResult q =
      { s with cu := u, ex.pending := e, sd.advisories := a, sd.holdTimer := t, sd.holdTime := h } := by
  unfold State.tareResult
  dsimp only
  split
  · obtain ⟨e, a, t, h, h1⟩ := State.calFail_frame (liftOutcome .tare .failed (some .short) q s.we.marks) s.calIdle
    rw [h1]; exact ⟨_, _, _, _, _, rfl⟩
  · split
    · obtain ⟨e, a, t, h, h1⟩ := State.calFail_frame (liftOutcome .tare .failed (some .quality) q s.we.marks)
        { s with cu.cal := .tareArmed, cu.scratchTare := none }
      exact ⟨_, _, _, _, _, h1⟩
    · obtain ⟨a, t, h, h1⟩ := State.queueAdvisory_frame .calLiftLoad
        { s with
          cu.cal := .loadedWait
          cu.scratchTare := some s.we.meanForces
          cu.outcome := some (liftOutcome .tare .stepDone none q s.we.marks) }
      exact ⟨_, _, _, _, _, h1⟩

theorem State.commitTable_frame (t l : Eight Int) (q : Nat) (s : State) :
    ∃ u e a ht h, s.commitTable t l q =
      { s with cu := u, ex.pending := e, sd.advisories := a, sd.holdTimer := ht, sd.holdTime := h } := by
  unfold State.commitTable
  generalize hm : State.calIdle _ = m
  obtain ⟨e, a, ht, h, h1⟩ := State.calDone_frame (liftOutcome .loaded .done none q s.we.marks) m
  rw [h1]; subst hm
  exact ⟨_, _, _, _, _, rfl⟩

theorem State.loadedResult_frame (q : Nat) (s : State) :
    ∃ u e a t h, s.loadedResult q =
      { s with cu := u, ex.pending := e, sd.advisories := a, sd.holdTimer := t, sd.holdTime := h } := by
  unfold State.loadedResult
  dsimp only
  split
  · obtain ⟨e, a, t, h, h1⟩ := State.calFail_frame (liftOutcome .loaded .failed (some .short) q s.we.marks)
      { s with cu.cal := .loadedWait, cu.scratchMref := none }
    exact ⟨_, _, _, _, _, h1⟩
  · split
    · obtain ⟨e, a, t, h, h1⟩ := State.calFail_frame (liftOutcome .loaded .failed (some .quality) q s.we.marks)
        { s with cu.cal := .loadedArmed }
      exact ⟨_, _, _, _, _, h1⟩
    · split
      · rename_i b _
        obtain ⟨e, a, t, h, h1⟩ := State.calFail_frame
          { liftOutcome .loaded .failed (some .span) q s.we.marks with failBin := some b.val }
          { s with cu.cal := .loadedWait, cu.scratchLoaded := none, cu.scratchMref := none }
        exact ⟨_, _, _, _, _, h1⟩
      · exact State.commitTable_frame _ _ q s

theorem State.zeroResult_frame (m1 : Int) (q : Nat) (s : State) :
    ∃ z u e a t h, s.zeroResult m1 q =
      { s with we.zt := z, cu := u, ex.pending := e, sd.advisories := a, sd.holdTimer := t, sd.holdTime := h } := by
  unfold State.zeroResult
  dsimp only
  split
  · obtain ⟨e, a, t, h, h1⟩ := State.calDone_frame
      { liftOutcome .zero .done none q s.we.marks with m1 := some (recordedM1 m1) }
      (State.calIdle { s with we.zt := m1 })
    exact ⟨_, _, _, _, _, _, h1⟩
  · obtain ⟨e, a, t, h, h1⟩ := State.calFail_frame
      { liftOutcome .zero .failed (some .zero) q s.we.marks with m1 := some (recordedM1 m1) } s.calIdle
    exact ⟨_, _, _, _, _, _, h1⟩

theorem State.weighSample_frame (filter : Nat) (x : Sample) (s : State) :
    ∃ w, s.weighSample filter x = { s with we := w } := ⟨_, rfl⟩

/-- A weigh abort (R40): besides CT's timer, memory and cause and WE's window, it writes the calibration state, the notices, the
advisory queue and the counters. -/
theorem State.abortWeigh_frame (c : AbortCause) (s : State) :
    ∃ n e a t h, s.abortWeigh c =
      { s with
        ct.windowTimer := .stopped, ct.highTheta := none, ct.belowStart := false, ct.abortCause := some c
        we := s.we.discardWindow, cu.cal := s.cu.cal.abortWindow, lq.counters := n, ex.pending := e
        sd.advisories := a, sd.holdTimer := t, sd.holdTime := h } := by
  unfold State.abortWeigh
  dsimp only
  split
  · generalize hm : State.countAbort _ = m
    obtain ⟨a, t, h, h1⟩ := State.queueAdvisory_frame .weighAborted m
    rw [h1]; subst hm
    exact ⟨_, _, _, _, _, rfl⟩
  · exact ⟨_, _, _, _, _, rfl⟩

/-- A completion writes no block but CT, WE, CU, the held pass, the notices, the advisory queue and the counters (R61). -/
theorem State.completeWindow_frame (s : State) :
    ∃ c w u x n e a t h, s.completeWindow =
      { s with ct := c, we := w, cu := u, lt.held := x, lq.counters := n, ex.pending := e, sd.advisories := a,
               sd.holdTimer := t, sd.holdTime := h } := by
  unfold State.completeWindow
  dsimp only
  split
  · obtain ⟨n, e, a, t, h, h1⟩ := State.abortWeigh_frame .noData s
    rw [h1]; exact ⟨_, _, _, _, _, _, _, _, _, rfl⟩
  · split
    · obtain ⟨x, h1⟩ := State.acceptPass_frame (weighedPass s.cu s.we) { s with we.windowOpen := false }
      rw [h1]; exact ⟨_, _, _, _, _, _, _, _, _, rfl⟩
    · obtain ⟨u, e, a, t, h, h1⟩ := State.tareResult_frame s.we.qualifying.length { s with we.windowOpen := false }
      rw [h1]; exact ⟨_, _, _, _, _, _, _, _, _, rfl⟩
    · obtain ⟨u, e, a, t, h, h1⟩ := State.loadedResult_frame s.we.qualifying.length { s with we.windowOpen := false }
      rw [h1]; exact ⟨_, _, _, _, _, _, _, _, _, rfl⟩
    · obtain ⟨z, u, e, a, t, h, h1⟩ := State.zeroResult_frame (correctedMass s.cu s.we) s.we.qualifying.length
        { s with we.windowOpen := false }
      rw [h1]; exact ⟨_, _, _, _, _, _, _, _, _, rfl⟩
    · exact ⟨_, _, _, _, _, _, _, _, _, rfl⟩

/-- The application of a WEIGH record (R75). -/
theorem State.applyWeigh_frame (r : WeighRec) (s : State) :
    ∃ u e a t h, s.applyWeigh r =
      { s with we.weigh := r, we.pendingWeigh := none, cu := u, ex.pending := e, sd.advisories := a,
               sd.holdTimer := t, sd.holdTime := h } := by
  unfold State.applyWeigh
  dsimp only
  split
  · exact ⟨_, _, _, _, _, rfl⟩
  · obtain ⟨u, e, a, t, h, h1⟩ := State.geometryChange_frame { s with we.weigh := r, we.pendingWeigh := none }
    rw [h1]; exact ⟨_, _, _, _, _, rfl⟩

theorem State.applyPendingWeigh_frame (s : State) :
    ∃ u e a t h, s.applyPendingWeigh =
      { s with we.weigh := s.we.pendingWeigh.getD s.we.weigh, we.pendingWeigh := none, cu := u, ex.pending := e,
               sd.advisories := a, sd.holdTimer := t, sd.holdTime := h } := by
  unfold State.applyPendingWeigh
  split
  · rename_i h0
    refine ⟨s.cu, s.ex.pending, s.sd.advisories, s.sd.holdTimer, s.sd.holdTime, ?_⟩
    obtain ⟨sp, lm, ct, we, cu, lt, lq, sd, ex, ports, held, choices, pending⟩ := s
    obtain ⟨a, b, c, d, e, f, g, h, i, j, k⟩ := we
    subst h0
    rfl
  · rename_i r h0
    obtain ⟨u, e, a, t, h, h1⟩ := State.applyWeigh_frame r s
    rw [h1]
    simp only [h0, Option.getD_some]
    exact ⟨_, _, _, _, _, rfl⟩

/-! ### The tracker -/

theorem State.abortIfWeighing_frame (c : AbortCause) (s : State) :
    ∃ m ct w cal n e a t h, s.abortIfWeighing c =
      { s with sp.trace.mode := m, ct := ct, we := w, cu.cal := cal, lq.counters := n, ex.pending := e,
               sd.advisories := a, sd.holdTimer := t, sd.holdTime := h } := by
  unfold State.abortIfWeighing
  split
  · obtain ⟨n, e, a, t, h, h1⟩ := State.abortWeigh_frame c s
    rw [h1]
    generalize hm : ({ s with
      ct.windowTimer := .stopped, ct.highTheta := none, ct.belowStart := false, ct.abortCause := some c
      we := s.we.discardWindow, cu.cal := s.cu.cal.abortWindow, lq.counters := n, ex.pending := e
      sd.advisories := a, sd.holdTimer := t, sd.holdTime := h } : State) = m
    obtain ⟨tm, h2⟩ := State.endTrace_frame m
    rw [h2]; subst hm
    exact ⟨_, _, _, _, _, _, _, _, _, rfl⟩
  · exact ⟨_, _, _, _, _, _, _, _, _, rfl⟩

theorem State.applyPendingCycle_frame (s : State) :
    ∃ c d, s.applyPendingCycle = { s with ct.cycle := c, ct.pendingCycle := d } := by
  unfold State.applyPendingCycle
  split <;> exact ⟨_, _, rfl⟩

/-- LOW entry (R49). -/
theorem State.lowEntry_frame (s : State) :
    ∃ ct w d u e a t h, s.lowEntry =
      { s with ct := ct, we.weigh := w, we.pendingWeigh := d, cu := u, ex.pending := e, sd.advisories := a,
               sd.holdTimer := t, sd.holdTime := h } := by
  unfold State.lowEntry
  obtain ⟨c, d, h1⟩ := State.applyPendingCycle_frame
    { s with ct.tracker := .low, ct.belowStart := false, ct.dwellTimer := .stopped }
  rw [h1]
  generalize hm : ({ s with ct.tracker := .low, ct.belowStart := false, ct.dwellTimer := .stopped, ct.cycle := c,
                            ct.pendingCycle := d } : State) = m
  obtain ⟨u, e, a, t, h, h2⟩ := State.applyPendingWeigh_frame m
  rw [h2]; subst hm
  exact ⟨_, _, _, _, _, _, _, _, rfl⟩

/-- A sample's judgement writes no block but CT, WE, CU, the held pass, the notices, the advisory queue and the counters (R36). -/
theorem State.judgeSample_frame (theta phi : Int) (s : State) :
    ∃ c w u x n e a t h, s.judgeSample theta phi =
      { s with ct := c, we := w, cu := u, lt.held := x, lq.counters := n, ex.pending := e, sd.advisories := a,
               sd.holdTimer := t, sd.holdTime := h } := by
  have low : ∃ c w u x n e a t h, s.lowEntry =
      { s with ct := c, we := w, cu := u, lt.held := x, lq.counters := n, ex.pending := e, sd.advisories := a,
               sd.holdTimer := t, sd.holdTime := h } := by
    obtain ⟨ct, w, d, u, e, a, t, h, h1⟩ := State.lowEntry_frame s
    rw [h1]; exact ⟨_, _, _, _, _, _, _, _, _, rfl⟩
  have up : ∃ c w u x n e a t h, s.takeUpBoom theta =
      { s with ct := c, we := w, cu := u, lt.held := x, lq.counters := n, ex.pending := e, sd.advisories := a,
               sd.holdTimer := t, sd.holdTime := h } := by
    unfold State.takeUpBoom
    split
    · exact low
    · exact ⟨_, _, _, _, _, _, _, _, _, rfl⟩
  have carried : ∃ c w u x n e a t h, s.judgeCarried theta phi =
      { s with ct := c, we := w, cu := u, lt.held := x, lq.counters := n, ex.pending := e, sd.advisories := a,
               sd.holdTimer := t, sd.holdTime := h } := by
    unfold State.judgeCarried
    split
    · exact low
    · exact ⟨_, _, _, _, _, _, _, _, _, rfl⟩
  unfold State.judgeSample
  split
  · exact ⟨_, _, _, _, _, _, _, _, _, rfl⟩
  · exact up
  · split
    · exact ⟨_, _, _, _, _, _, _, _, _, rfl⟩
    · exact up
  · unfold State.judgeLow
    split <;> exact ⟨_, _, _, _, _, _, _, _, _, rfl⟩
  · unfold State.judgeLifting
    split
    · exact low
    · split
      · exact ⟨_, _, _, _, _, _, _, _, _, rfl⟩
      · split <;> exact ⟨_, _, _, _, _, _, _, _, _, rfl⟩
  · unfold State.judgeWeighing
    split
    · generalize hm : ({ s with ct.tracker := .raised, ct.windowTimer := .stopped, ct.highTheta := none } : State) = m
      obtain ⟨c, w, u, x, n, e, a, t, h, h1⟩ := State.completeWindow_frame m
      rw [h1]; subst hm
      exact ⟨_, _, _, _, _, _, _, _, _, rfl⟩
    · split
      · obtain ⟨n, e, a, t, h, h1⟩ := State.abortWeigh_frame .lowered s
        rw [h1]; exact ⟨_, _, _, _, _, _, _, _, _, rfl⟩
      · exact ⟨_, _, _, _, _, _, _, _, _, rfl⟩
  · exact carried
  · exact carried
  · unfold State.judgeDumping
    split <;> exact ⟨_, _, _, _, _, _, _, _, _, rfl⟩

theorem State.dumpSwitchChange_frame (l c : Bool) (s : State) :
    ∃ ct, s.dumpSwitchChange l c = { s with ct := ct } := by
  unfold State.dumpSwitchChange
  dsimp only
  split
  · split
    · exact ⟨_, rfl⟩
    · exact ⟨_, rfl⟩
    · unfold State.judgeDumping
      split <;> exact ⟨_, rfl⟩
    · exact ⟨_, rfl⟩
  · exact ⟨_, rfl⟩

theorem State.parkChange_frame (l : Bool) (s : State) :
    ∃ m ct w cal n e a t h, s.parkChange l =
      { s with sp.trace.mode := m, ct := ct, we := w, cu.cal := cal, lq.counters := n, ex.pending := e,
               sd.advisories := a, sd.holdTimer := t, sd.holdTime := h } := by
  unfold State.parkChange
  dsimp only
  split
  · obtain ⟨m, ct, w, cal, n, e, a, t, h, h1⟩ := State.abortIfWeighing_frame .park { s with ct.park := l }
    rw [h1]; exact ⟨_, _, _, _, _, _, _, _, _, rfl⟩
  · exact ⟨_, _, _, _, _, _, _, _, _, rfl⟩

theorem State.trackerLoss_frame (s : State) :
    ∃ m ct w cal n e a t h, s.trackerLoss =
      { s with sp.trace.mode := m, ct := ct, we := w, cu.cal := cal, lq.counters := n, ex.pending := e,
               sd.advisories := a, sd.holdTimer := t, sd.holdTime := h } := by
  unfold State.trackerLoss
  dsimp only
  split
  · obtain ⟨m, ct, w, cal, n, e, a, t, h, h1⟩ := State.abortIfWeighing_frame .sensorLost s
    rw [h1]; exact ⟨_, _, _, _, _, _, _, _, _, rfl⟩
  · exact ⟨_, _, _, _, _, _, _, _, _, rfl⟩

theorem State.trackerRun_frame (s : State) : ∃ ct, s.trackerRun = { s with ct := ct } := by
  unfold State.trackerRun
  split <;> exact ⟨_, rfl⟩

theorem State.trackerStop_frame (s : State) :
    ∃ m ct w cal n e a t h, s.trackerStop =
      { s with sp.trace.mode := m, ct := ct, we := w, cu.cal := cal, lq.counters := n, ex.pending := e,
               sd.advisories := a, sd.holdTimer := t, sd.holdTime := h } := by
  unfold State.trackerStop
  dsimp only
  split
  · exact ⟨_, _, _, _, _, _, _, _, _, rfl⟩
  · obtain ⟨m, ct, w, cal, n, e, a, t, h, h1⟩ := State.abortIfWeighing_frame .stopped s
    rw [h1]; exact ⟨_, _, _, _, _, _, _, _, _, rfl⟩

theorem State.windowTimeout_frame (s : State) :
    ∃ m ct w cal n e a t h, s.windowTimeout =
      { s with sp.trace.mode := m, ct := ct, we := w, cu.cal := cal, lq.counters := n, ex.pending := e,
               sd.advisories := a, sd.holdTimer := t, sd.holdTime := h } := by
  unfold State.windowTimeout
  split
  · obtain ⟨m, ct, w, cal, n, e, a, t, h, h1⟩ := State.abortIfWeighing_frame .timeout s
    rw [h1]; exact ⟨_, _, _, _, _, _, _, _, _, rfl⟩
  · exact ⟨_, _, _, _, _, _, _, _, _, rfl⟩

/-- Dump entry, or a shake (R46, R48): CT, and at a counted dump entry what a credit writes. -/
theorem State.dwellExpiry_frame (s : State) :
    ∃ ct x l dt nn nt q n e a t h, s.dwellExpiry =
      { s with ct := ct, lt.held := x, lt.load := l, lt.durationTimer := dt, lt.nextNumber := nn, lt.nextTruck := nt,
               lq.queue := q, lq.counters := n, ex.pending := e, sd.advisories := a, sd.holdTimer := t,
               sd.holdTime := h } := by
  unfold State.dwellExpiry
  split
  · split
    · unfold State.dumpEntry
      dsimp only
      split
      · generalize hm : State.countCycle _ _ = m
        obtain ⟨x, l, dt, nn, nt, q, n, e, a, t, h, h1⟩ := State.credit_frame m
        rw [h1]; subst hm
        exact ⟨_, _, _, _, _, _, _, _, _, _, _, _, rfl⟩
      · exact ⟨_, _, _, _, _, _, _, _, _, _, _, _, rfl⟩
    · exact ⟨_, _, _, _, _, _, _, _, _, _, _, _, rfl⟩
    · exact ⟨_, _, _, _, _, _, _, _, _, _, _, _, rfl⟩
  · exact ⟨_, _, _, _, _, _, _, _, _, _, _, _, rfl⟩

/-! ### Sampling -/

theorem State.judgeFaults_frame (b : Bool) (s : State) :
    ∃ f n e, s.judgeFaults b = { s with sp.sensorFault := f, sp.cleanRun := n, ex.pending := e } := by
  unfold State.judgeFaults
  dsimp only
  split
  · split <;> exact ⟨_, _, _, rfl⟩
  · split <;> exact ⟨_, _, _, rfl⟩

theorem State.announceHalf_frame (n : Nat) (s : State) : ∃ e, s.announceHalf n = { s with ex.pending := e } := by
  unfold State.announceHalf
  split
  · split <;> exact ⟨_, rfl⟩
  · exact ⟨_, rfl⟩

theorem State.appendTrace_frame (x : TraceEntry) (s : State) :
    ∃ es d e, s.appendTrace x = { s with sp.trace.entries := es, sp.trace.drops := d, ex.pending := e } := by
  unfold State.appendTrace
  dsimp only
  split
  · obtain ⟨e, h1⟩ := State.announceHalf_frame s.sp.trace.entries.length
      { s with sp.trace.entries := s.sp.trace.entries ++ [x] }
    rw [h1]; exact ⟨_, _, _, rfl⟩
  · exact ⟨_, _, _, rfl⟩

theorem State.recordSet_frame (b : Tracker) (x : TraceEntry) (s : State) :
    ∃ t e, s.recordSet b x = { s with sp.trace := t, ex.pending := e } := by
  unfold State.recordSet
  obtain ⟨es, d, e, h1⟩ := State.appendTrace_frame x s
  dsimp only
  rw [h1]
  split
  · exact ⟨_, _, rfl⟩
  · exact ⟨_, _, rfl⟩
  · split <;> exact ⟨_, _, rfl⟩
  · exact ⟨_, _, rfl⟩
  · exact ⟨_, _, rfl⟩

theorem State.noteSet_frame (x : SampleSet) (s : State) : ∃ p e, s.noteSet x = { s with sp := p, ex.pending := e } := by
  unfold State.noteSet
  obtain ⟨f, n, e, h1⟩ := State.judgeFaults_frame x.anyFault
    { s with
      sp := ((s.sp.takeSeq x.seq).takeTheta x.channels.theta).takeTiltPitch x.channels.phi x.channels.psi }
  rw [h1]; exact ⟨_, _, rfl⟩

theorem State.handOn_frame (x : Sample) (s : State) :
    ∃ p c w u y n e a t h, s.handOn x =
      { s with sp := p, ct := c, we := w, cu := u, lt.held := y, lq.counters := n, ex.pending := e,
               sd.advisories := a, sd.holdTimer := t, sd.holdTime := h } := by
  unfold State.handOn
  dsimp only
  obtain ⟨c, w, u, y, n, e, a, t, h, h1⟩ := State.judgeSample_frame x.theta x.phi
    { s with
      sp.lossTimer := .started, sp.liveTheta := some x.theta, sp.livePhi := some x.phi, sp.livePsi := some x.psi }
  rw [h1]
  exact ⟨_, _, _, _, _, _, _, _, _, _, rfl⟩

theorem State.passOn_frame (x : SampleSet) (s : State) :
    ∃ p c w u y n e a t h, s.passOn x =
      { s with sp := p, ct := c, we := w, cu := u, lt.held := y, lq.counters := n, ex.pending := e,
               sd.advisories := a, sd.holdTimer := t, sd.holdTime := h } := by
  unfold State.passOn
  obtain ⟨p, e, h1⟩ := State.noteSet_frame x s
  rw [h1]
  split
  · rename_i theta _
    obtain ⟨p, c, w, u, y, n, e, a, t, h, h2⟩ := State.handOn_frame (s.sampleOf x theta)
      { s with sp := p, ex.pending := e }
    rw [h2]; exact ⟨_, _, _, _, _, _, _, _, _, _, rfl⟩
  · exact ⟨_, _, _, _, _, _, _, _, _, _, rfl⟩

/-- A frame writes no block but SP, CT, WE, CU, the held pass, the notices, the advisory queue and the counters. -/
theorem State.receiveFrame_frame (bits : List Bool) (s : State) :
    ∃ p c w u y n e a t h, s.receiveFrame bits =
      { s with sp := p, ct := c, we := w, cu := u, lt.held := y, lq.counters := n, ex.pending := e,
               sd.advisories := a, sd.holdTimer := t, sd.holdTime := h } := by
  unfold State.receiveFrame
  split
  · exact ⟨_, _, _, _, _, _, _, _, _, _, rfl⟩
  · split
    · exact ⟨_, _, _, _, _, _, _, _, _, _, rfl⟩
    · rename_i x _
      unfold State.receiveSet
      dsimp only
      obtain ⟨p, c, w, u, y, n, e, a, t, h, h1⟩ := State.passOn_frame x s
      rw [h1]
      generalize hm : ({ s with
        sp := p, ct := c, we := w, cu := u, lt.held := y, lq.counters := n, ex.pending := e, sd.advisories := a,
        sd.holdTimer := t, sd.holdTime := h } : State) = m
      obtain ⟨tr, e2, h2⟩ := State.recordSet_frame s.ct.tracker (s.entryOf x m.ct.tracker) m
      rw [h2]; subst hm
      exact ⟨_, _, _, _, _, _, _, _, _, _, rfl⟩

theorem State.sampleLoss_frame (s : State) :
    ∃ p c w cal n e a t h, s.sampleLoss =
      { s with sp := p, ct := c, we := w, cu.cal := cal, lq.counters := n, ex.pending := e,
               sd.advisories := a, sd.holdTimer := t, sd.holdTime := h } := by
  unfold State.sampleLoss
  split
  · generalize hm : State.raiseBoth .sensorFault _ = m
    obtain ⟨tm, c, w, cal, n, e, a, t, h, h1⟩ := State.trackerLoss_frame m
    rw [h1]; subst hm
    exact ⟨_, _, _, _, _, _, _, _, _, rfl⟩
  · exact ⟨_, _, _, _, _, _, _, _, _, rfl⟩

theorem State.pacePulse_frame (s : State) :
    ∃ a b c, s.pacePulse = { s with sp.pace := a, sp.pacePulses := b, sp.pacer := c } := by
  unfold State.pacePulse
  split <;> exact ⟨_, _, _, rfl⟩

theorem State.samplingRun_frame (s : State) :
    ∃ p w v, s.samplingRun = { s with sp := p, we.history := w, we.latestF := v } := by
  unfold State.samplingRun
  split <;> exact ⟨_, _, _, rfl⟩

theorem State.samplingStop_frame (s : State) : ∃ p, s.samplingStop = { s with sp := p } := by
  unfold State.samplingStop
  split <;> exact ⟨_, rfl⟩

end Sys2Proof.Machine
end

