-- ==== Sys2Proof/Laws/OrderFrames.lean ====
section
/-! SUPPORT. What taking an order does to its port, and one frame for each event of LM, SD and EX and for each order. -/

namespace Sys2Proof.Machine

open Sys2Proof

/-! ### Taking an order -/

/-- Taking an order is its effect, then its answer on the port (R171). -/
theorem State.take_eq_answered (p : Port) (order : State → Answer) (s : State) :
    s.take p order = (order s).state.answered p (order s).result (order s).reply := by
  unfold State.take State.answered State.restartHold State.holds State.setPort
  dsimp only
  by_cases h : (order s).state.ex.hold = some p
  · simp [h]
  · simp [h]

/-- With SEL low, units and clocks act (R169). -/
theorem State.whileSelected_low {p : Port} {s : State} (f : State → State) (h : (s.ports.get p).selected = true) :
    s.whileSelected p f = f s := by
  unfold State.whileSelected; rw [h]; rfl

/-- With SEL high, units and clocks do nothing (R169). -/
theorem State.whileSelected_high {p : Port} {s : State} (f : State → State) (h : (s.ports.get p).selected = false) :
    s.whileSelected p f = s := by
  unfold State.whileSelected; rw [h]; rfl

theorem State.whileSelected_keeps {P : State → Prop} {p : Port} {s : State} {f : State → State} (h : P s)
    (k : P s → P (f s)) : P (s.whileSelected p f) := by
  unfold State.whileSelected
  split
  · exact k h
  · exact h

theorem State.takeOrder_ready {p : Port} {s : State} (order : State → Answer)
    (sel : (s.ports.get p).selected = true) (h : (s.ports.get p).frame = .expectOrder) :
    s.takeOrder p order = (order s).state.answered p (order s).result (order s).reply := by
  unfold State.takeOrder
  rw [State.whileSelected_low _ sel]
  unfold State.orderUnits
  rw [h]
  exact State.take_eq_answered p order s

theorem State.takeOrder_params {p : Port} {s : State} (order : State → Answer)
    (sel : (s.ports.get p).selected = true) (h : (s.ports.get p).frame = .params) :
    s.takeOrder p order =
      (order (s.abandon p)).state.answered p (order (s.abandon p)).result (order (s.abandon p)).reply := by
  unfold State.takeOrder
  rw [State.whileSelected_low _ sel]
  unfold State.orderUnits
  rw [h]
  exact State.take_eq_answered p order (s.abandon p)

theorem State.takeOrder_idle {p : Port} {s : State} (order : State → Answer)
    (h : (s.ports.get p).frame = .reply ∨ (s.ports.get p).frame = .paused) : s.takeOrder p order = s := by
  unfold State.takeOrder State.whileSelected State.orderUnits
  rcases h with h | h <;> rw [h] <;> exact ite_self s

/-- Whatever holds of a state also after the answer on a port holds after the order, if the order and an abandonment keep it. -/
theorem State.takeOrder_keeps {P : State → Prop} {p : Port} {order : State → Answer} {s : State} (h : P s)
    (abandons : ∀ t : State, P t → P (t.abandon p)) (orders : ∀ t : State, P t → P (order t).state)
    (answers : ∀ (t : State) r b, P t → P (t.answered p r b)) : P (s.takeOrder p order) := by
  refine State.whileSelected_keeps h fun h => ?_
  unfold State.orderUnits
  split
  · rw [State.take_eq_answered]; exact answers _ _ _ (orders _ h)
  · rw [State.take_eq_answered]; exact answers _ _ _ (orders _ (abandons _ h))
  · exact h
  · exact h

theorem live_keeps {P : State → Prop} {s t : State} {f : State → State} (e : live s f = .next t) (h : P s)
    (k : P s → P (f s)) : P t := by
  unfold live at e
  injection e with e
  subst e
  split
  · exact h
  · exact k h

/-- What a unit or a clock of port `p` keeps, with SEL low or high (R169). -/
theorem unit_keeps {P : State → Prop} {p : Port} {s t : State} {f : State → State}
    (e : live s (State.whileSelected p f) = .next t) (h : P s) (k : P s → P (f s)) : P t :=
  live_keeps e h fun h => State.whileSelected_keeps h k

theorem live_not_held {s : State} (f : State → State) (h : s.held = false) : live s f = .next (f s) := by
  simp [live, h]

theorem live_held {s : State} (f : State → State) (h : s.held = true) : live s f = .next s := by
  simp [live, h]

/-! ### Lines -/

/-- LM hands its levels on: besides LM's own, CT's and SD's, it writes what a park writes (R22, R33). -/
theorem State.handLevels_frame (s : State) :
    ∃ l m ct w cal n e a t h li, s.handLevels =
      { s with lm.levels := l, sp.trace.mode := m, ct := ct, we := w, cu.cal := cal, lq.counters := n, ex.pending := e,
               sd.advisories := a, sd.holdTimer := t, sd.holdTime := h, sd.lights := li } := by
  unfold State.handLevels
  dsimp only
  have one : ∃ l m ct w cal n e a t h li, (if s.lm.computedLevels.park = s.lm.levels.park then
        { s with lm.levels := s.lm.computedLevels }
      else State.parkChange s.lm.computedLevels.park { s with lm.levels := s.lm.computedLevels }) =
      { s with lm.levels := l, sp.trace.mode := m, ct := ct, we := w, cu.cal := cal, lq.counters := n, ex.pending := e,
               sd.advisories := a, sd.holdTimer := t, sd.holdTime := h, sd.lights := li } := by
    split
    · exact ⟨_, _, _, _, _, _, _, _, _, _, _, rfl⟩
    · obtain ⟨m, ct, w, cal, n, e, a, t, h, h1⟩ :=
        State.parkChange_frame s.lm.computedLevels.park { s with lm.levels := s.lm.computedLevels }
      rw [h1]; exact ⟨_, _, _, _, _, _, _, _, _, _, _, rfl⟩
  obtain ⟨l, m, ct, w, cal, n, e, a, t, h, li, h1⟩ := one
  rw [h1]
  generalize hk : ({ s with lm.levels := l, sp.trace.mode := m, ct := ct, we := w, cu.cal := cal, lq.counters := n,
                            ex.pending := e, sd.advisories := a, sd.holdTimer := t, sd.holdTime := h,
                            sd.lights := li } : State) = k
  obtain ⟨c2, h2⟩ := State.dumpSwitchChange_frame s.lm.computedLevels.dumpSwitch s.lm.computedLevels.dumpConfigured k
  rw [h2]; subst hk
  split <;> split <;> exact ⟨_, _, _, _, _, _, _, _, _, _, _, rfl⟩

theorem State.ackMessage_frame (s : State) :
    ∃ m e, s.ackMessage = { s with ex.slots := m, ex.pending := e } := by
  unfold State.ackMessage Ex.acknowledge
  split
  · exact ⟨_, _, rfl⟩
  · split <;> exact ⟨_, _, rfl⟩

/-- A function event writes LT, the queue and its counters, the slots, the notices and the advisory queue (Table 2-2). -/
theorem State.takeEvent_frame (v : LineEvent) (s : State) :
    ∃ x l dt nn nt q n sl e a t h, s.takeEvent v =
      { s with lt.held := x, lt.load := l, lt.durationTimer := dt, lt.nextNumber := nn, lt.nextTruck := nt,
               lq.queue := q, lq.counters := n, ex.slots := sl, ex.pending := e, sd.advisories := a,
               sd.holdTimer := t, sd.holdTime := h } := by
  unfold State.takeEvent
  split
  · obtain ⟨x, a, t, h, h1⟩ := State.tipOff_frame s
    rw [h1]; exact ⟨_, _, _, _, _, _, _, _, _, _, _, _, rfl⟩
  · obtain ⟨l, dt, n, h1⟩ := State.undoPass_frame s
    rw [h1]; exact ⟨_, _, _, _, _, _, _, _, _, _, _, _, rfl⟩
  · obtain ⟨l, dt, nn, nt, q, n, e, a, t, h, h1⟩ := State.nextTruckEvent_frame s
    rw [h1]; exact ⟨_, _, _, _, _, _, _, _, _, _, _, _, rfl⟩
  · obtain ⟨x, n, h1⟩ := State.discardPass_frame s
    rw [h1]; exact ⟨_, _, _, _, _, _, _, _, _, _, _, _, rfl⟩
  · obtain ⟨m, e, h1⟩ := State.ackMessage_frame s
    rw [h1]; exact ⟨_, _, _, _, _, _, _, _, _, _, _, _, rfl⟩

theorem State.takeEvents_frame (k : Nat) : ∀ (vs : List LineEvent) (s : State),
    ∃ x l dt nn nt q n sl e a t h ch, s.takeEvents k vs =
      { s with lt.held := x, lt.load := l, lt.durationTimer := dt, lt.nextNumber := nn, lt.nextTruck := nt,
               lq.queue := q, lq.counters := n, ex.slots := sl, ex.pending := e, sd.advisories := a,
               sd.holdTimer := t, sd.holdTime := h, choices := ch } := by
  induction k with
  | zero =>
    intro vs s
    exact ⟨_, _, _, _, _, _, _, _, _, _, _, _, _, rfl⟩
  | succ k ih =>
    intro vs s
    match vs with
    | [] => exact ⟨_, _, _, _, _, _, _, _, _, _, _, _, _, rfl⟩
    | [v] =>
      obtain ⟨x, l, dt, nn, nt, q, n, sl, e, a, t, h, h1⟩ := State.takeEvent_frame v s
      simp only [State.takeEvents]
      rw [h1]; exact ⟨_, _, _, _, _, _, _, _, _, _, _, _, _, rfl⟩
    | v :: w :: rest =>
      simp only [State.takeEvents]
      generalize (v :: w :: rest).getD _ _ = u
      generalize List.eraseIdx _ _ = vs2
      obtain ⟨x, l, dt, nn, nt, q, n, sl, e, a, t, h, h1⟩ :=
        State.takeEvent_frame u { s with choices := s.choices + 1 }
      rw [h1]
      generalize hm : ({ s with
        choices := s.choices + 1, lt.held := x, lt.load := l, lt.durationTimer := dt, lt.nextNumber := nn,
        lt.nextTruck := nt, lq.queue := q, lq.counters := n, ex.slots := sl, ex.pending := e, sd.advisories := a,
        sd.holdTimer := t, sd.holdTime := h } : State) = m
      obtain ⟨x2, l2, dt2, nn2, nt2, q2, n2, sl2, e2, a2, t2, h2, ch2, h3⟩ := ih vs2 m
      rw [h3]; subst hm
      exact ⟨_, _, _, _, _, _, _, _, _, _, _, _, _, rfl⟩

theorem State.evaluateWatch_frame (x y : BitVec 8) (p : Port) (s : State) :
    ∃ w e, s.evaluateWatch x y p = { s with lm.watch := w, ex.pending := e } := by
  unfold State.evaluateWatch
  dsimp only
  split <;> exact ⟨_, _, rfl⟩

theorem State.evaluateWatches_frame (x y : BitVec 8) (s : State) :
    ∃ w e, s.evaluateWatches x y = { s with lm.watch := w, ex.pending := e } := by
  unfold State.evaluateWatches
  obtain ⟨w, e, h1⟩ := State.evaluateWatch_frame x y .a s
  rw [h1]
  obtain ⟨w2, e2, h2⟩ := State.evaluateWatch_frame x y .b { s with lm.watch := w, ex.pending := e }
  rw [h2]; exact ⟨_, _, rfl⟩

/-- A line update writes what the levels handed on write, what the function events write, and the watches (R18). -/
theorem State.lineUpdate_frame (s : State) :
    ∃ lm m ct w cal lt q n sl e a t h li ch, s.lineUpdate =
      { s with lm := lm, sp.trace.mode := m, ct := ct, we := w, cu.cal := cal, lt := lt, lq.queue := q, lq.counters := n,
               ex.slots := sl, ex.pending := e, sd.advisories := a, sd.holdTimer := t, sd.holdTime := h, sd.lights := li,
               choices := ch } := by
  unfold State.lineUpdate
  dsimp only
  split
  · obtain ⟨l, m, ct, w, cal, n, e, a, t, h, li, h1⟩ := State.handLevels_frame { s with lm := s.lm.update }
    generalize State.handLevels _ = k at h1 ⊢
    generalize LinesRec.eventsOf _ _ = vs
    obtain ⟨x, l2, dt, nn, nt, q, n2, sl, e2, a2, t2, h2, ch, h3⟩ := State.takeEvents_frame vs.length vs k
    generalize State.takeEvents _ _ _ = k2 at h3 ⊢
    generalize Lm.active _ = u
    generalize Lm.active _ = v
    obtain ⟨wt, e3, h4⟩ := State.evaluateWatches_frame u v k2
    generalize State.evaluateWatches _ _ _ = k3 at h4 ⊢
    subst h4 h3 h1
    exact ⟨_, _, _, _, _, _, _, _, _, _, _, _, _, _, _, rfl⟩
  · exact ⟨_, _, _, _, _, _, _, _, _, _, _, _, _, _, _, rfl⟩

/-! ### Strip and exchange events -/

theorem State.refresh_frame (s : State) :
    ∃ a b c d, s.refresh = { s with sd.snapshot := a, sd.sending := b, sd.refreshTimer := c, sd.refreshPeriod := d } := by
  unfold State.refresh
  split <;> exact ⟨_, _, _, _, rfl⟩

theorem State.blinkToggle_frame (s : State) :
    ∃ a b, s.blinkToggle = { s with sd.blink := a, sd.blinkTimer := b } := by
  unfold State.blinkToggle
  split <;> exact ⟨_, _, rfl⟩

theorem State.advisoryExpiry_frame (s : State) :
    ∃ a t h, s.advisoryExpiry = { s with sd.advisories := a, sd.holdTimer := t, sd.holdTime := h } := by
  unfold State.advisoryExpiry
  split
  · split <;> exact ⟨_, _, _, rfl⟩
  · exact ⟨_, _, _, rfl⟩

/-- A loss of the hold writes the hold, and what an abandonment of a calibration writes (R92, R154). -/
theorem State.loseHold_frame (s : State) :
    ∃ u e a t h, s.loseHold =
      { s with ex.hold := none, ex.holdTimer := .stopped, cu := u, ex.pending := e, sd.advisories := a,
               sd.holdTimer := t, sd.holdTime := h } := by
  unfold State.loseHold State.holdLoss
  obtain ⟨u, e, a, t, h, h1⟩ := State.abandonCal_frame .aborted { s with ex.hold := none, ex.holdTimer := .stopped }
  rw [h1]; exact ⟨_, _, _, _, _, rfl⟩

theorem State.holdLapse_frame (s : State) :
    ∃ o ht u e a t h, s.holdLapse =
      { s with ex.hold := o, ex.holdTimer := ht, cu := u, ex.pending := e, sd.advisories := a,
               sd.holdTimer := t, sd.holdTime := h } := by
  unfold State.holdLapse
  split
  · exact ⟨_, _, _, _, _, _, _, rfl⟩
  · rename_i p _
    split
    · obtain ⟨u, e, a, t, h, h1⟩ := State.loseHold_frame (s.raise p .holdLapsed)
      rw [h1]; exact ⟨_, _, _, _, _, _, _, rfl⟩
    · exact ⟨_, _, _, _, _, _, _, rfl⟩

/-! ### Orders of each block -/

theorem orderRun_frame (s : State) :
    ∃ p ct w v, (orderRun s).state = { s with sp := p, ct := ct, we.history := w, we.latestF := v } := by
  unfold orderRun Answer.done
  obtain ⟨p, w, v, h1⟩ := State.samplingRun_frame s
  rw [h1]
  generalize hm : ({ s with sp := p, we.history := w, we.latestF := v } : State) = m
  obtain ⟨ct, h2⟩ := State.trackerRun_frame m
  rw [h2]; subst hm
  exact ⟨_, _, _, _, rfl⟩

theorem orderStop_frame (s : State) :
    ∃ p ct w cal n e a t h, (orderStop s).state =
      { s with sp := p, ct := ct, we := w, cu.cal := cal, lq.counters := n, ex.pending := e,
               sd.advisories := a, sd.holdTimer := t, sd.holdTime := h } := by
  unfold orderStop Answer.done
  obtain ⟨m, ct, w, cal, n, e, a, t, h, h1⟩ := State.trackerStop_frame s
  rw [h1]
  generalize hm : ({ s with
    sp.trace.mode := m, ct := ct, we := w, cu.cal := cal, lq.counters := n, ex.pending := e,
    sd.advisories := a, sd.holdTimer := t, sd.holdTime := h } : State) = k
  obtain ⟨p, h2⟩ := State.samplingStop_frame k
  dsimp only
  rw [h2]; subst hm
  exact ⟨_, _, _, _, _, _, _, _, _, rfl⟩

theorem orderTraceArm_frame (p : Port) (m : Byte) (s : State) :
    ∃ t, (orderTraceArm p m s).state = { s with sp.trace := t } := by
  unfold orderTraceArm
  dsimp only
  split
  · exact ⟨_, rfl⟩
  · split
    · exact ⟨_, rfl⟩
    · split <;> exact ⟨_, rfl⟩

theorem orderTraceRead_frame (p : Port) (n : Byte) (s : State) :
    ∃ t, (orderTraceRead p n s).state = { s with sp.trace.entries := t } := by
  unfold orderTraceRead
  dsimp only
  split
  · exact ⟨_, rfl⟩
  · split
    · exact ⟨_, rfl⟩
    · split <;> exact ⟨_, rfl⟩

theorem orderSetWatch_frame (p : Port) (m c d : Byte) (s : State) :
    ∃ w, (orderSetWatch p m c d s).state = { s with lm.watch := w } := by
  unfold orderSetWatch
  dsimp only
  split <;> exact ⟨_, rfl⟩

theorem orderReleaseLoad_frame (n : BitVec 16) (s : State) :
    ∃ q, (orderReleaseLoad n s).state = { s with lq.queue := q } := by
  unfold orderReleaseLoad
  split
  · exact ⟨_, rfl⟩
  · split
    · exact ⟨_, rfl⟩
    · split
      · exact ⟨_, rfl⟩
      · split <;> exact ⟨_, rfl⟩

theorem orderCollectLoad_state (s : State) : (orderCollectLoad s).state = s := by
  unfold orderCollectLoad
  split <;> rfl

theorem orderSetTarget_frame (p : Port) (w : TargetWire) (s : State) :
    ∃ l e a t h, (orderSetTarget p w s).state =
      { s with lt.load := l, ex.pending := e, sd.advisories := a, sd.holdTimer := t, sd.holdTime := h } := by
  unfold orderSetTarget
  split
  · exact ⟨_, _, _, _, _, rfl⟩
  · dsimp only
    generalize hm : State.recomputeLoad _ = m
    obtain ⟨e, a, t, h, h1⟩ := State.announceLoad_frame s.lt.load.state m
    rw [h1]; subst hm
    exact ⟨_, _, _, _, _, rfl⟩

theorem orderSetNext_frame (p : Port) (n : Byte) (w : TargetWire) (s : State) :
    ∃ x, (orderSetNext p n w s).state = { s with lt.nextTruck := x } := by
  unfold orderSetNext
  split
  · exact ⟨_, rfl⟩
  · split <;> exact ⟨_, rfl⟩

theorem orderCloseLoad_frame (s : State) :
    ∃ l dt nn nt q n e a t h, (orderCloseLoad s).state =
      { s with lt.load := l, lt.durationTimer := dt, lt.nextNumber := nn, lt.nextTruck := nt, lq.queue := q,
               lq.counters := n, ex.pending := e, sd.advisories := a, sd.holdTimer := t, sd.holdTime := h } := by
  unfold orderCloseLoad
  split
  · exact ⟨_, _, _, _, _, _, _, _, _, _, rfl⟩
  · exact State.closeLoad_frame _ s

theorem orderReadMaterial_state (i : Byte) (s : State) : (orderReadMaterial i s).state = s := by
  unfold orderReadMaterial
  split <;> rfl

theorem orderWriteMaterial_frame (w : MaterialWire) (s : State) :
    ∃ m, (orderWriteMaterial w s).state = { s with lt.materials := m } := by
  unfold orderWriteMaterial
  split <;> exact ⟨_, rfl⟩

theorem orderShiftEnd_frame (s : State) :
    ∃ l dt nn nt q n tm sn ls e a t h, (orderShiftEnd s).state =
      { s with lt.load := l, lt.durationTimer := dt, lt.nextNumber := nn, lt.nextTruck := nt, lq.queue := q,
               lq.counters := n, lq.shiftTimer := tm, lq.shiftNo := sn, lq.lastSummary := ls, ex.pending := e,
               sd.advisories := a, sd.holdTimer := t, sd.holdTime := h } := by
  unfold orderShiftEnd
  dsimp only
  obtain ⟨l, dt, nn, nt, q, n, e, a, t, h, h1⟩ := State.shiftClose_frame s
  rw [h1]
  exact ⟨_, _, _, _, _, _, _, _, _, _, _, _, _, rfl⟩

theorem orderCalTare_frame (p : Port) (s : State) :
    ∃ u a t h, (orderCalTare p s).state =
      { s with cu := u, sd.advisories := a, sd.holdTimer := t, sd.holdTime := h } := by
  unfold orderCalTare
  split
  · exact ⟨_, _, _, _, rfl⟩
  · split
    · exact ⟨_, _, _, _, rfl⟩
    · split
      · exact ⟨_, _, _, _, rfl⟩
      · unfold Answer.done
        generalize hm : ({ s.calIdle with cu.cal := .tareArmed } : State) = m
        obtain ⟨a, t, h, h1⟩ := State.queueAdvisory_frame .calLiftEmpty m
        rw [h1]; subst hm
        exact ⟨_, _, _, _, rfl⟩

theorem orderCalLoaded_frame (p : Port) (m : BitVec 16) (s : State) :
    ∃ u, (orderCalLoaded p m s).state = { s with cu := u } := by
  unfold orderCalLoaded
  split
  · exact ⟨_, rfl⟩
  · split
    · exact ⟨_, rfl⟩
    · split <;> exact ⟨_, rfl⟩

theorem orderCalZero_frame (p : Port) (s : State) :
    ∃ u o ht a t h, (orderCalZero p s).state =
      { s with cu := u, ex.hold := o, ex.holdTimer := ht, sd.advisories := a, sd.holdTimer := t, sd.holdTime := h } := by
  unfold orderCalZero
  split
  · exact ⟨_, _, _, _, _, _, rfl⟩
  · split
    · exact ⟨_, _, _, _, _, _, rfl⟩
    · split
      · exact ⟨_, _, _, _, _, _, rfl⟩
      · unfold Answer.done
        dsimp only
        split
        · generalize hm : ({ s.giveHold p with cu.cal := .zeroArmed } : State) = m
          obtain ⟨a, t, h, h1⟩ := State.queueAdvisory_frame .calLiftEmpty m
          rw [h1]; subst hm
          exact ⟨_, _, _, _, _, _, rfl⟩
        · obtain ⟨a, t, h, h1⟩ := State.queueAdvisory_frame .calLiftEmpty { s with cu.cal := .zeroArmed }
          rw [h1]
          exact ⟨_, _, _, _, _, _, rfl⟩

theorem orderCalAbort_frame (p : Port) (s : State) :
    ∃ u e a t h, (orderCalAbort p s).state =
      { s with cu := u, ex.pending := e, sd.advisories := a, sd.holdTimer := t, sd.holdTime := h } := by
  unfold orderCalAbort
  split
  · exact ⟨_, _, _, _, _, rfl⟩
  · exact State.abandonCal_frame .aborted s

theorem orderWriteTable_frame (p : Port) (w : TableWire) (s : State) :
    ∃ u, (orderWriteTable p w s).state = { s with cu := u } := by
  unfold orderWriteTable
  split
  · exact ⟨_, rfl⟩
  · split
    · exact ⟨_, rfl⟩
    · split <;> exact ⟨_, rfl⟩

theorem orderOpenWindow_frame (p : Port) (w : WindowWire) (s : State) :
    ∃ x, (orderOpenWindow p w s).state = { s with sd.windows := x } := by
  unfold orderOpenWindow
  split <;> exact ⟨_, rfl⟩

theorem orderPutText_frame (p : Port) (cs : List Byte) (s : State) :
    ∃ x m, (orderPutText p cs s).state = { s with sd.windows := x, sd.text := m } := by
  unfold orderPutText
  split <;> exact ⟨_, _, rfl⟩

theorem orderSetStrip_frame (b : Byte) (s : State) : ∃ d, (orderSetStrip b s).state = { s with sd.dim := d } := by
  unfold orderSetStrip
  split <;> exact ⟨_, rfl⟩

theorem orderReadSettings_state (g : Byte) (s : State) : (orderReadSettings g s).state = s := by
  unfold orderReadSettings
  split <;> rfl

theorem orderWriteSample_frame (r : Byte) (s : State) : ∃ p, (orderWriteSample r s).state = { s with sp := p } := by
  unfold orderWriteSample
  split <;> exact ⟨_, rfl⟩

theorem orderWriteWeigh_frame (p : Port) (w : WeighWire) (s : State) :
    ∃ r d u e a t h, (orderWriteWeigh p w s).state =
      { s with we.weigh := r, we.pendingWeigh := d, cu := u, ex.pending := e, sd.advisories := a,
               sd.holdTimer := t, sd.holdTime := h } := by
  unfold orderWriteWeigh
  split
  · exact ⟨_, _, _, _, _, _, _, rfl⟩
  · split
    · exact ⟨_, _, _, _, _, _, _, rfl⟩
    · unfold Answer.done State.placeWeigh
      dsimp only
      split
      · obtain ⟨u, e, a, t, h, h1⟩ := State.applyWeigh_frame (weighOfWire w) s
        rw [h1]; exact ⟨_, _, _, _, _, _, _, rfl⟩
      · exact ⟨_, _, _, _, _, _, _, rfl⟩

theorem orderWriteCycle_frame (p : Port) (w : CycleWire) (s : State) :
    ∃ c f r d u e a t h, (orderWriteCycle p w s).state =
      { s with ct.cycle := c, ct.pendingCycle := f, we.weigh := r, we.pendingWeigh := d, cu := u, ex.pending := e,
               sd.advisories := a, sd.holdTimer := t, sd.holdTime := h } := by
  unfold orderWriteCycle
  split
  · exact ⟨_, _, _, _, _, _, _, _, _, rfl⟩
  · split
    · exact ⟨_, _, _, _, _, _, _, _, _, rfl⟩
    · unfold Answer.done State.placeCycle
      dsimp only
      split
      · obtain ⟨u, e, a, t, h, h1⟩ := State.applyPendingWeigh_frame
          { s with ct.cycle := cycleOfWire w, ct.pendingCycle := none }
        rw [h1]; exact ⟨_, _, _, _, _, _, _, _, _, rfl⟩
      · exact ⟨_, _, _, _, _, _, _, _, _, rfl⟩

theorem orderWriteLoad_frame (w : LoadWire) (s : State) :
    ∃ r l, (orderWriteLoad w s).state = { s with lt.settings := r, lt.load.state := l } := by
  unfold orderWriteLoad
  split <;> exact ⟨_, _, rfl⟩

theorem orderWriteLines_frame (w : LinesWire) (s : State) :
    ∃ lm m ct we cal n e a t h li, (orderWriteLines w s).state =
      { s with lm := lm, sp.trace.mode := m, ct := ct, we := we, cu.cal := cal, lq.counters := n, ex.pending := e,
               sd.advisories := a, sd.holdTimer := t, sd.holdTime := h, sd.lights := li } := by
  unfold orderWriteLines
  split
  · exact ⟨_, _, _, _, _, _, _, _, _, _, _, rfl⟩
  · unfold Answer.done State.applyLines
    dsimp only
    obtain ⟨l, m, ct, we, cal, n, e, a, t, h, li, h1⟩ := State.handLevels_frame { s with lm.settings := linesOfWire w }
    rw [h1]
    split
    · exact ⟨_, _, _, _, _, _, _, _, _, _, _, rfl⟩
    · generalize hk : ({ s with
        lm.settings := linesOfWire w, lm.levels := l, sp.trace.mode := m, ct := ct, we := we, cu.cal := cal,
        lq.counters := n, ex.pending := e, sd.advisories := a, sd.holdTimer := t, sd.holdTime := h,
        sd.lights := li } : State) = k
      generalize Lm.active _ = x
      generalize Lm.active _ = y
      obtain ⟨w2, e2, h2⟩ := State.evaluateWatches_frame x y k
      rw [h2]; subst hk
      exact ⟨_, _, _, _, _, _, _, _, _, _, _, rfl⟩

theorem orderWriteStrip_frame (w : StripWire) (s : State) :
    ∃ r, (orderWriteStrip w s).state = { s with sd.settings := r } := by
  unfold orderWriteStrip
  split <;> exact ⟨_, rfl⟩

theorem orderTakeHold_frame (p : Port) (s : State) :
    ∃ o t, (orderTakeHold p s).state = { s with ex.hold := o, ex.holdTimer := t } := by
  unfold orderTakeHold
  split
  · exact ⟨_, _, rfl⟩
  · split <;> exact ⟨_, _, rfl⟩

theorem orderDropHold_frame (p : Port) (s : State) :
    ∃ o ht u e a t h, (orderDropHold p s).state =
      { s with ex.hold := o, ex.holdTimer := ht, cu := u, ex.pending := e, sd.advisories := a,
               sd.holdTimer := t, sd.holdTime := h } := by
  unfold orderDropHold
  split
  · obtain ⟨u, e, a, t, h, h1⟩ := State.loseHold_frame s
    exact ⟨_, _, _, _, _, _, _, h1⟩
  · exact ⟨_, _, _, _, _, _, _, rfl⟩

theorem orderReadMessage_frame (p : Port) (s : State) :
    ∃ m o e, (orderReadMessage p s).state = { s with ex.slots := m, ex.storeOrder := o, ex.pending := e } := by
  unfold orderReadMessage
  split <;> exact ⟨_, _, _, rfl⟩

/-- LINK_RESET writes the hold and what its loss writes, the trace, the port's window, watch and notices, and the port (R178). -/
theorem orderLinkReset_frame (p : Port) (s : State) :
    ∃ o ht u e a t h tr w q, (orderLinkReset p s).state =
      { s with ex.hold := o, ex.holdTimer := ht, cu := u, ex.pending := e, sd.advisories := a, sd.holdTimer := t,
               sd.holdTime := h, sp.trace := tr, lm.watch := w, sd.windows := s.sd.windows.set p none, ports := q } := by
  unfold orderLinkReset Answer.done State.resetHold State.resetTrace State.resetWatch
  dsimp only
  generalize hm : State.setPort p _ s = m
  obtain ⟨u, e, a, t, h, h1⟩ := State.loseHold_frame m
  rw [h1]; subst hm
  split <;> split <;> exact ⟨_, _, _, _, _, _, _, _, _, _, rfl⟩

end Sys2Proof.Machine
end

