-- ==== Sys2Proof/Laws/Keeps.lean ====
section
/-! SUPPORT. What it takes for a property of states to be kept by every command: `Kept` lists the events and the orders one by one,
and `Kept.exec` and `Kept.step` draw the conclusion. It serves every property that the ports and the message slots play no part in. -/

namespace Sys2Proof.Machine

open Sys2Proof

/-- `P` does not look at the ports, the slots and the notices, and every event and every order keeps it. -/
structure Kept (P : State → Prop) : Prop where
  ports : ∀ s q, P s → P { s with ports := q }
  mail : ∀ s a b c d, P s → P { s with ex.slots := a, ex.storeOrder := b, ex.deposits := c, ex.pending := d }
  notices : ∀ s d e, P s → P { s with ex.pending := d, ex.enable := e }
  idleTimer : ∀ s p, P s → P { s with ex.holdTimer := if s.ex.hold = some p then .started else s.ex.holdTimer }
  queue : ∀ s q, P s → P { s with pending := q }
  reset : ∀ s : State, P s.deviceReset
  release : ∀ s, P s → P s.resetRelease
  frame : ∀ s bits, P s → P (s.receiveFrame bits)
  pulse : ∀ s, P s → P s.pacePulse
  loss : ∀ s, P s → P s.sampleLoss
  tick : ∀ s raw, P s → P (s.lineTick raw)
  update : ∀ s, P s → P s.lineUpdate
  timeout : ∀ s, P s → P s.windowTimeout
  dwell : ∀ s, P s → P s.dwellExpiry
  lapse : ∀ s, P s → P s.holdLapse
  strip : ∀ s a b c d, P s →
    P { s with sd.snapshot := a, sd.sending := b, sd.refreshTimer := c, sd.refreshPeriod := d }
  blink : ∀ s a b, P s → P { s with sd.blink := a, sd.blinkTimer := b }
  advisory : ∀ s, P s → P s.advisoryExpiry
  loadSecond : ∀ s, P s → P s.loadSecond
  shiftSecond : ∀ s, P s → P s.shiftSecond
  run : ∀ s, P s → P (orderRun s).state
  stop : ∀ s, P s → P (orderStop s).state
  setTarget : ∀ s p w, P s → P (orderSetTarget p w s).state
  setNext : ∀ s x, P s → P { s with lt.nextTruck := x }
  closeLoad : ∀ s, P s → P (orderCloseLoad s).state
  releaseLoad : ∀ s n, P s → P (orderReleaseLoad n s).state
  shiftEnd : ∀ s, P s → P (orderShiftEnd s).state
  writeSample : ∀ s r, P s → P (orderWriteSample r s).state
  writeWeigh : ∀ s p w, P s → P (orderWriteWeigh p w s).state
  writeCycle : ∀ s p w, P s → P (orderWriteCycle p w s).state
  writeLoad : ∀ s w, P s → P (orderWriteLoad w s).state
  writeLines : ∀ s w, P s → P (orderWriteLines w s).state
  writeStrip : ∀ s r, P s → P { s with sd.settings := r }
  writeMaterial : ∀ s m, P s → P { s with lt.materials := m }
  takeHold : ∀ s p, P s → P (orderTakeHold p s).state
  dropHold : ∀ s p, P s → P (orderDropHold p s).state
  calTare : ∀ s p, P s → P (orderCalTare p s).state
  calLoaded : ∀ s p m, P s → P (orderCalLoaded p m s).state
  calZero : ∀ s p, P s → P (orderCalZero p s).state
  calAbort : ∀ s p, P s → P (orderCalAbort p s).state
  writeTable : ∀ s p w, P s → P (orderWriteTable p w s).state
  watch : ∀ s w, P s → P { s with lm.watch := w }
  traceArm : ∀ s p m, P s → P (orderTraceArm p m s).state
  traceRead : ∀ s p n, P s → P (orderTraceRead p n s).state
  openWindow : ∀ s p w, P s → P (orderOpenWindow p w s).state
  putText : ∀ s p cs, P s → P (orderPutText p cs s).state
  setStrip : ∀ s d, P s → P { s with sd.dim := d }
  linkReset : ∀ s p, P s → P (orderLinkReset p s).state

variable {P : State → Prop}

theorem Kept.setPort (k : Kept P) {s : State} (p : Port) (q : Lp) (h : P s) : P (s.setPort p q) := k.ports s _ h

theorem Kept.raise (k : Kept P) {s : State} (p : Port) (n : Notice) (h : P s) : P (s.raise p n) :=
  k.notices s _ s.ex.enable h

theorem Kept.deposits (k : Kept P) {s : State} (d : PerPort (Option Nat)) (h : P s) : P { s with ex.deposits := d } :=
  k.mail s s.ex.slots s.ex.storeOrder d s.ex.pending h

theorem Kept.restart (k : Kept P) {s : State} (p : Port) (h : P s) : P (s.restartHold p) := by
  have e : s.restartHold p = { s with ex.holdTimer := if s.ex.hold = some p then .started else s.ex.holdTimer } := by
    unfold State.restartHold State.holds
    by_cases h : s.ex.hold = some p <;> simp [h]
  rw [e]
  exact k.idleTimer s p h

theorem Kept.answered (k : Kept P) {s : State} (p : Port) (r : ResultCode) (b : List Byte) (h : P s) :
    P (s.answered p r b) := by
  unfold State.answered
  exact k.ports _ _ (k.idleTimer s p h)

theorem Kept.abandon (k : Kept P) {s : State} (p : Port) (h : P s) : P (s.abandon p) := by
  obtain ⟨a, b, c, d, q, e⟩ := State.abandon_frame p s
  rw [e]
  exact k.ports _ q (k.mail s a b c d h)

theorem Kept.setNextOrder (k : Kept P) {s : State} (p : Port) (n : Byte) (w : TargetWire) (h : P s) :
    P (orderSetNext p n w s).state := by
  obtain ⟨x, e⟩ := orderSetNext_frame p n w s
  rw [e]; exact k.setNext s x h

theorem Kept.writeStripOrder (k : Kept P) {s : State} (w : StripWire) (h : P s) : P (orderWriteStrip w s).state := by
  obtain ⟨x, e⟩ := orderWriteStrip_frame w s
  rw [e]; exact k.writeStrip s x h

theorem Kept.writeMaterialOrder (k : Kept P) {s : State} (w : MaterialWire) (h : P s) :
    P (orderWriteMaterial w s).state := by
  obtain ⟨x, e⟩ := orderWriteMaterial_frame w s
  rw [e]; exact k.writeMaterial s x h

theorem Kept.readMessageOrder (k : Kept P) {s : State} (p : Port) (h : P s) : P (orderReadMessage p s).state := by
  obtain ⟨m, o, e, h1⟩ := orderReadMessage_frame p s
  rw [h1]; exact k.mail s m o s.ex.deposits e h

theorem Kept.setWatchOrder (k : Kept P) {s : State} (p : Port) (m c d : Byte) (h : P s) :
    P (orderSetWatch p m c d s).state := by
  obtain ⟨x, e⟩ := orderSetWatch_frame p m c d s
  rw [e]; exact k.watch s x h

theorem Kept.setStripOrder (k : Kept P) {s : State} (b : Byte) (h : P s) : P (orderSetStrip b s).state := by
  obtain ⟨x, e⟩ := orderSetStrip_frame b s
  rw [e]; exact k.setStrip s x h

theorem Kept.depositOrder (k : Kept P) {s : State} (p : Port) (ps : List Byte) (h : P s) :
    P (orderDeposit p ps s).state := k.mail s _ _ _ _ h

theorem Kept.writeSettingsOrder (k : Kept P) {s : State} (p : Port) (ps : List Byte) (h : P s) :
    P (orderWriteSettings p ps s).state := by
  unfold orderWriteSettings
  split
  · exact k.writeSample s _ h
  · exact k.writeWeigh s _ _ h
  · exact k.writeCycle s _ _ h
  · exact k.writeLoad s _ h
  · exact k.writeLines s _ h
  · exact k.writeStripOrder _ h
  · exact h

/-- Every order of Table 11-3 keeps `P`. -/
theorem Kept.orderOf (k : Kept P) {s : State} (p : Port) (code : Byte) (ps : List Byte) (h : P s) :
    P (orderOf p code ps s).state := by
  unfold Machine.orderOf
  split
  · exact k.run s h
  · exact k.stop s h
  · exact h
  · exact h
  · exact k.setTarget s _ _ h
  · exact k.setNextOrder _ _ _ h
  · exact k.closeLoad s h
  · rw [orderCollectLoad_state]; exact h
  · exact k.releaseLoad s _ h
  · exact h
  · exact k.shiftEnd s h
  · rw [orderReadSettings_state]; exact h
  · exact k.writeSettingsOrder _ _ h
  · rw [orderReadMaterial_state]; exact h
  · exact k.writeMaterialOrder _ h
  · exact k.takeHold s _ h
  · exact k.dropHold s _ h
  · exact k.calTare s _ h
  · exact k.calLoaded s _ _ h
  · exact k.calZero s _ h
  · exact k.calAbort s _ h
  · exact h
  · exact k.writeTable s _ _ h
  · exact k.depositOrder _ _ h
  · exact k.readMessageOrder _ h
  · exact h
  · exact h
  · exact k.notices s _ s.ex.enable h
  · exact k.notices s s.ex.pending _ h
  · exact k.watch s _ h
  · exact k.setWatchOrder _ _ _ _ h
  · exact k.traceArm s _ _ h
  · exact k.traceRead s _ _ h
  · exact k.openWindow s _ _ h
  · exact k.putText s _ _ h
  · exact k.setStripOrder _ h
  · exact h
  · exact k.linkReset s _ h
  · exact h

theorem Kept.take (k : Kept P) {s : State} (p : Port) {order : State → Answer} (h : P (order s).state) :
    P (s.take p order) := by
  rw [State.take_eq_answered]; exact k.answered _ _ _ h

theorem Kept.takeOrder (k : Kept P) {s : State} (p : Port) {order : State → Answer}
    (o : ∀ t : State, P t → P (order t).state) (h : P s) : P (s.takeOrder p order) :=
  State.takeOrder_keeps h (fun _ h => k.abandon p h) o (fun _ _ _ h => k.answered _ _ _ h)

theorem Kept.settle (k : Kept P) {s : State} (p : Port) (o : Pending) (r : ResultCode) (b : List Byte) (h : P s) :
    P (s.settle p o r b) := k.setPort _ _ (k.restart p h)

theorem Kept.beginOrder (k : Kept P) {s : State} (p : Port) (code : Byte) (h : P s) : P (s.beginOrder p code) := by
  unfold State.beginOrder
  split
  · exact k.setPort _ _ (k.restart p h)
  · exact k.take p (k.orderOf p code [] h)
  · exact k.setPort _ _ h
  · exact k.setPort _ _ h
  · split
    · exact k.settle _ _ _ _ h
    · exact k.setPort _ _ (k.deposits _ h)

theorem Kept.kind0Unit (k : Kept P) {s : State} (p : Port) (code : Byte) (h : P s) : P (s.kind0Unit p code) := by
  unfold State.kind0Unit
  split
  · exact k.beginOrder p code h
  · exact k.beginOrder p code (k.abandon p h)
  · exact h
  · exact h

theorem Kept.kind1Unit (k : Kept P) {s : State} (p : Port) (b : Byte) (h : P s) : P (s.kind1Unit p b) := by
  unfold State.kind1Unit
  dsimp only
  split
  · exact k.setPort _ _ h
  · split
    · exact h
    · split
      · unfold State.passOver
        split
        · exact k.setPort _ _ h
        · split
          · exact k.setPort _ _ h
          · exact k.setPort _ _ h
      · unfold State.parameter
        split
        · unfold State.lengthUnit
          dsimp only
          split
          · exact k.settle _ _ _ _ (k.deposits _ h)
          · exact k.setPort _ _ h
        · dsimp only
          split
          · exact k.take p (k.orderOf p _ _ h)
          · refine k.setPort _ _ ?_
            unfold State.countDeposit
            split
            · exact k.deposits _ h
            · exact h
  · exact h
  · exact h

theorem Kept.kind1Units (k : Kept P) {p : Port} (bs : List Byte) : ∀ {s : State}, P s → P (s.kind1Units p bs) := by
  induction bs with
  | nil => intro s h; exact h
  | cons b bs ih => intro s h; exact ih (k.kind1Unit p b h)

theorem Kept.replyEdge (k : Kept P) {s : State} (p : Port) (d : Bool) (h : P s) : P (s.replyEdge p d) := by
  unfold State.replyEdge
  dsimp only
  split
  · exact k.raise _ _ (k.setPort _ _ h)
  · exact k.setPort _ _ h

theorem Kept.clockEdge (k : Kept P) {s : State} (p : Port) (d : Bool) (h : P s) : P (s.clockEdge p d) := by
  have bit : P (s.sampleBit p d) := by
    unfold State.sampleBit
    dsimp only
    split
    · exact k.setPort _ _ h
    · unfold State.completeUnit
      dsimp only
      split
      · exact k.kind1Unit _ _ h
      · exact k.kind0Unit _ _ h
  unfold State.clockEdge
  split
  · exact bit
  · exact bit
  · exact k.replyEdge p d h
  · exact h

theorem Kept.contendedClock (k : Kept P) {s : State} (p : Port) (h : P s) : P (s.contendedClock p) := by
  unfold State.contendedClock
  split
  · exact k.replyEdge p _ h
  · exact h

theorem Kept.refresh (k : Kept P) {s : State} (h : P s) : P s.refresh := by
  obtain ⟨a, b, c, d, e⟩ := State.refresh_frame s
  rw [e]; exact k.strip s a b c d h

theorem Kept.blinkToggle (k : Kept P) {s : State} (h : P s) : P s.blinkToggle := by
  obtain ⟨a, b, e⟩ := State.blinkToggle_frame s
  rw [e]; exact k.blink s a b h

/-- Every command keeps `P`. -/
theorem Kept.exec (k : Kept P) {c : Instr} {s t : State} (h : P s) (e : exec c s = .next t) : P t := by
  cases c with
  | deviceReset =>
    simp only [Machine.exec, execDeviceReset, Host.Outcome.next.injEq] at e
    subst e; exact k.reset s
  | resetRelease =>
    simp only [Machine.exec, execResetRelease, Host.Outcome.next.injEq] at e
    subst e; exact k.release s h
  | receivedSampleSet bits => exact live_keeps e h (k.frame s bits)
  | pacePulse => exact live_keeps e h (k.pulse s)
  | sampleLoss => exact live_keeps e h (k.loss s)
  | lineSampleTick levels => exact live_keeps e h (k.tick s levels)
  | lineUpdate => exact live_keeps e h (k.update s)
  | windowTimerExpiry => exact live_keeps e h (k.timeout s)
  | dwellTimerExpiry => exact live_keeps e h (k.dwell s)
  | holdLapse => exact live_keeps e h (k.lapse s)
  | refreshExpiry => exact live_keeps e h k.refresh
  | stripFrameSent => exact live_keeps e h (k.strip s s.sd.snapshot false s.sd.refreshTimer s.sd.refreshPeriod)
  | blinkToggle => exact live_keeps e h k.blinkToggle
  | advisoryHoldExpiry => exact live_keeps e h (k.advisory s)
  | loadDurationTick => exact live_keeps e h (k.loadSecond s)
  | shiftDurationTick => exact live_keeps e h (k.shiftSecond s)
  | stray p u => exact unit_keeps e h (k.kind1Unit p u)
  | badOrder p u => exact unit_keeps e h (k.kind0Unit p u)
  | parameterUnit p u => exact unit_keeps e h (k.kind1Unit p u)
  | orderUnit p u => exact unit_keeps e h (k.kind0Unit p u)
  | selRise p =>
    simp only [Machine.exec, execSelRise, Host.Outcome.next.injEq] at e
    subst e; exact k.setPort _ _ h
  | selFall p =>
    simp only [Machine.exec, execSelFall, Host.Outcome.next.injEq] at e
    subst e; exact k.setPort _ _ h
  | contention p => exact unit_keeps e h (k.contendedClock p)
  | replyClock p d => exact unit_keeps e h (k.clockEdge p d)
  | run p => exact live_keeps e h (k.takeOrder p k.run)
  | stop p => exact live_keeps e h (k.takeOrder p k.stop)
  | readLive p => exact live_keeps e h (k.takeOrder p fun _ h => h)
  | readOpenLoad p => exact live_keeps e h (k.takeOrder p fun _ h => h)
  | setTarget p w => exact live_keeps e h (k.takeOrder p fun t h => k.setTarget t p w h)
  | setNext p n w => exact live_keeps e h (k.takeOrder p fun _ h => k.setNextOrder p n w h)
  | closeLoad p => exact live_keeps e h (k.takeOrder p k.closeLoad)
  | collectLoad p =>
    exact live_keeps e h (k.takeOrder p fun t h => by rw [orderCollectLoad_state]; exact h)
  | releaseLoad p n => exact live_keeps e h (k.takeOrder p fun t h => k.releaseLoad t n h)
  | readShift p => exact live_keeps e h (k.takeOrder p fun _ h => h)
  | shiftEnd p => exact live_keeps e h (k.takeOrder p k.shiftEnd)
  | readSettingsSample p => exact live_keeps e h (k.takeOrder p fun _ h => h)
  | readSettingsWeigh p => exact live_keeps e h (k.takeOrder p fun _ h => h)
  | readSettingsCycle p => exact live_keeps e h (k.takeOrder p fun _ h => h)
  | readSettingsLoad p => exact live_keeps e h (k.takeOrder p fun _ h => h)
  | readSettingsLines p => exact live_keeps e h (k.takeOrder p fun _ h => h)
  | readSettingsStrip p => exact live_keeps e h (k.takeOrder p fun _ h => h)
  | writeSettingsSample p r => exact live_keeps e h (k.takeOrder p fun t h => k.writeSample t r h)
  | writeSettingsWeigh p w => exact live_keeps e h (k.takeOrder p fun t h => k.writeWeigh t p w h)
  | writeSettingsCycle p w => exact live_keeps e h (k.takeOrder p fun t h => k.writeCycle t p w h)
  | writeSettingsLoad p w => exact live_keeps e h (k.takeOrder p fun t h => k.writeLoad t w h)
  | writeSettingsLines p w => exact live_keeps e h (k.takeOrder p fun t h => k.writeLines t w h)
  | writeSettingsStrip p w => exact live_keeps e h (k.takeOrder p fun _ h => k.writeStripOrder w h)
  | readMaterial p i =>
    exact live_keeps e h (k.takeOrder p fun t h => by rw [orderReadMaterial_state]; exact h)
  | writeMaterial p w => exact live_keeps e h (k.takeOrder p fun _ h => k.writeMaterialOrder w h)
  | takeHold p => exact live_keeps e h (k.takeOrder p fun t h => k.takeHold t p h)
  | dropHold p => exact live_keeps e h (k.takeOrder p fun t h => k.dropHold t p h)
  | calTare p => exact live_keeps e h (k.takeOrder p fun t h => k.calTare t p h)
  | calLoaded p m => exact live_keeps e h (k.takeOrder p fun t h => k.calLoaded t p m h)
  | calZero p => exact live_keeps e h (k.takeOrder p fun t h => k.calZero t p h)
  | calAbort p => exact live_keeps e h (k.takeOrder p fun t h => k.calAbort t p h)
  | readTable p => exact live_keeps e h (k.takeOrder p fun _ h => h)
  | writeTable p w => exact live_keeps e h (k.takeOrder p fun t h => k.writeTable t p w h)
  | depositMessage p l f bs =>
    exact unit_keeps (f := fun t => (t.kind0Unit p depositCode).kind1Units p (l :: f :: bs)) e h
      fun h => k.kind1Units _ (k.kind0Unit p depositCode h)
  | putText p l cs =>
    exact unit_keeps (f := fun t => (t.kind0Unit p textCode).kind1Units p (l :: cs)) e h
      fun h => k.kind1Units _ (k.kind0Unit p textCode h)
  | readMessage p => exact live_keeps e h (k.takeOrder p fun _ h => k.readMessageOrder p h)
  | topNotice p => exact live_keeps e h (k.takeOrder p fun _ h => h)
  | readNotices p => exact live_keeps e h (k.takeOrder p fun _ h => h)
  | clearNotices p m => exact live_keeps e h (k.takeOrder p fun t h => k.notices t _ t.ex.enable h)
  | enableNotices p m => exact live_keeps e h (k.takeOrder p fun t h => k.notices t t.ex.pending _ h)
  | lineState p => exact live_keeps e h (k.takeOrder p fun t h => k.watch t _ h)
  | setWatch p m c d => exact live_keeps e h (k.takeOrder p fun _ h => k.setWatchOrder p m c d h)
  | traceArm p m => exact live_keeps e h (k.takeOrder p fun t h => k.traceArm t p m h)
  | traceRead p n => exact live_keeps e h (k.takeOrder p fun t h => k.traceRead t p n h)
  | openWindow p w => exact live_keeps e h (k.takeOrder p fun t h => k.openWindow t p w h)
  | setStrip p b => exact live_keeps e h (k.takeOrder p fun _ h => k.setStripOrder b h)
  | portStatus p => exact live_keeps e h (k.takeOrder p fun _ h => h)
  | linkReset p => exact live_keeps e h (k.takeOrder p fun t h => k.linkReset t p h)

/-- Every step keeps `P`. -/
theorem Kept.step (k : Kept P) {s t : State} (h : P s) (e : step s = .next t) : P t := by
  unfold Machine.step at e
  split at e
  · injection e with e
    subst e; exact h
  · rename_i rest _
    exact k.exec (k.queue s rest h) e

end Sys2Proof.Machine
end

