-- ==== Sys2Proof/Laws/Text.lean ====
section
/-! SUPPORT. The port text layer: its canonical form is kept by every write, a write is read back, and equal layers are equal
data. -/

namespace Sys2Proof.Machine

open Sys2Proof

@[simp] theorem stripChar_stripChar (c : Byte) : stripChar (stripChar c) = stripChar c := by
  revert c; decide

theorem stripChar_range (c : Byte) : 0x20 ≤ (stripChar c).toNat ∧ (stripChar c).toNat ≤ 0x5F := by
  revert c; decide

/-- Every listed address lies above `n`. -/
def textAbove (n : Nat) : List Host.Cell → Prop
  | [] => True
  | (k, _) :: _ => n < k

theorem textWf_cons {k : Nat} {v : Byte} {m : List Host.Cell} :
    textWf ((k, v) :: m) = true ↔
      k < 40 ∧ v ≠ space ∧ stripChar v = v ∧ textAbove k m ∧ textWf m = true := by
  cases m with
  | nil => simp [textWf, textAbove]; tauto
  | cons c m => simp [textWf, textAbove]; tauto

theorem textAbove_of_le {n k : Nat} {m : List Host.Cell} (h : n ≤ k) (a : textAbove k m) : textAbove n m := by
  cases m with
  | nil => trivial
  | cons c m => exact lt_of_le_of_lt h a

theorem textAbove_write {n a : Nat} {v : Byte} {m : List Host.Cell} (h : n < a) (b : textAbove n m)
    (w : textWf m = true) : textAbove n (textWrite m a v) := by
  cases m with
  | nil => unfold textWrite; split <;> simp_all [textAbove]
  | cons c m =>
    obtain ⟨k, x⟩ := c
    rw [textWf_cons] at w
    unfold textWrite
    split
    · split <;> simpa [textAbove] using by first | exact b | exact h
    · split
      · split
        · exact textAbove_of_le (le_of_lt b) w.2.2.2.1
        · exact h
      · exact b

/-- A write keeps the canonical form (R150). -/
theorem textWrite_wf {m : List Host.Cell} {a : Nat} {v : Byte} (w : textWf m = true) (ha : a < 40)
    (hv : stripChar v = v) : textWf (textWrite m a v) = true := by
  induction m with
  | nil =>
    unfold textWrite
    split
    · rfl
    · rw [textWf_cons]; exact ⟨ha, by assumption, hv, trivial, rfl⟩
  | cons c m ih =>
    obtain ⟨k, x⟩ := c
    have w' := textWf_cons.1 w
    unfold textWrite
    split
    · split
      · exact w
      · rw [textWf_cons]; exact ⟨ha, by assumption, hv, by assumption, w⟩
    · split
      · split
        · exact w'.2.2.2.2
        · rw [textWf_cons]
          rename_i e _
          exact ⟨ha, by assumption, hv, by rw [e]; exact w'.2.2.2.1, w'.2.2.2.2⟩
      · rw [textWf_cons]
        exact ⟨w'.1, w'.2.1, w'.2.2.1, textAbove_write (by omega) w'.2.2.2.1 w'.2.2.2.2, ih w'.2.2.2.2⟩

theorem textRead_above {m : List Host.Cell} {a : Nat} (w : textWf m = true) (h : textAbove a m ) :
    textRead m a = space := by
  induction m with
  | nil => rfl
  | cons c m ih =>
    obtain ⟨k, x⟩ := c
    have w' := textWf_cons.1 w
    have hk : a < k := h
    simp only [textRead]
    rw [if_neg (by omega)]
    exact ih w'.2.2.2.2 (textAbove_of_le (by omega) w'.2.2.2.1)

/-- A cell holds what was last written to it. -/
theorem textRead_write_same {m : List Host.Cell} (a : Nat) (v : Byte) (w : textWf m = true) :
    textRead (textWrite m a v) a = v := by
  induction m with
  | nil =>
    unfold textWrite
    split
    · rename_i h; rw [h]; rfl
    · simp [textRead]
  | cons c m ih =>
    obtain ⟨k, x⟩ := c
    have w' := textWf_cons.1 w
    unfold textWrite
    split
    · rename_i hk
      split
      · rename_i h; rw [h]; exact textRead_above w hk
      · simp [textRead]
    · split
      · rename_i e
        split
        · rename_i h
          rw [h, e]; exact textRead_above w'.2.2.2.2 w'.2.2.2.1
        · simp [textRead]
      · rename_i h1 h2
        simp only [textRead]
        rw [if_neg (fun e => h2 e.symm)]
        exact ih w'.2.2.2.2

/-- A write leaves every other cell alone. -/
theorem textRead_write_other {m : List Host.Cell} {a b : Nat} (v : Byte) (h : b ≠ a) :
    textRead (textWrite m a v) b = textRead m b := by
  induction m with
  | nil =>
    unfold textWrite
    split
    · rfl
    · simp [textRead, Ne.symm h]
  | cons c m ih =>
    obtain ⟨k, x⟩ := c
    unfold textWrite
    split
    · split
      · rfl
      · simp [textRead, Ne.symm h]
    · split
      · rename_i e
        subst e
        split <;> simp [textRead, Ne.symm h]
      · simp only [textRead]
        rw [ih]

/-- Layers that read the same everywhere are the same data. -/
theorem textWf_ext {m n : List Host.Cell} (wm : textWf m = true) (wn : textWf n = true)
    (h : ∀ a, textRead m a = textRead n a) : m = n := by
  induction m generalizing n with
  | nil =>
    cases n with
    | nil => rfl
    | cons c n =>
      obtain ⟨k, x⟩ := c
      have := h k
      simp only [textRead, if_pos] at this
      exact absurd this.symm (textWf_cons.1 wn).2.1
  | cons c m ih =>
    obtain ⟨k, x⟩ := c
    have m' := textWf_cons.1 wm
    cases n with
    | nil =>
      have := h k
      simp only [textRead, if_pos] at this
      exact absurd this m'.2.1
    | cons d n =>
      obtain ⟨l, y⟩ := d
      have n' := textWf_cons.1 wn
      have hk : k = l := by
        rcases lt_trichotomy k l with q | q | q
        · have e := h k
          rw [textRead_above wn q] at e
          simp only [textRead, if_pos] at e
          exact absurd e m'.2.1
        · exact q
        · have e := h l
          rw [textRead_above wm q] at e
          simp only [textRead, if_pos] at e
          exact absurd e.symm n'.2.1
      subst hk
      have hx : x = y := by simpa [textRead] using h k
      subst hx
      congr 1
      refine ih m'.2.2.2.2 n'.2.2.2.2 fun a => ?_
      by_cases e : k = a
      · subst e
        rw [textRead_above m'.2.2.2.2 m'.2.2.2.1, textRead_above n'.2.2.2.2 n'.2.2.2.1]
      · simpa [textRead, e] using h a

/-- A window's counter advances inside the window (R152). -/
theorem Window.advance_sound {w : Window} (h : w.sound) : w.advance.sound := by
  unfold Window.sound at h ⊢
  unfold Window.advance
  split
  · split
    · dsimp only; omega
    · dsimp only; split <;> omega
  · split
    · dsimp only; omega
    · dsimp only; split <;> omega

/-- Writing through a sound window keeps the layer's form and the window (R150, R152). -/
theorem writeChars_sound (cs : List Byte) : ∀ {w : Window} {m : List Host.Cell}, w.sound → textWf m = true →
    (writeChars w m cs).1.sound ∧ textWf (writeChars w m cs).2 = true := by
  induction cs with
  | nil => intro w m hw hm; exact ⟨hw, hm⟩
  | cons c cs ih =>
    intro w m hw hm
    simp only [writeChars]
    refine ih (Window.advance_sound hw) (textWrite_wf hm ?_ (stripChar_stripChar c))
    unfold Window.sound at hw
    unfold textAddr
    omega

end Sys2Proof.Machine
end

