-- ==== Sys2Proof/Tests/Slice0.lean ====
section
/-! SUPPORT. The model's own tests: ill-formed commands refused, one-step tests whose expected results stand in the spec, and a
witness for the hypotheses of every obligation that has some. -/

namespace Sys2Proof.Tests

open Sys2Proof Sys2Proof.Machine

/-! ### Helpers -/

/-- A predicate of the next state; false of a fault or a refusal. -/
def after (o : Out) (f : State → Bool) : Bool :=
  match o with
  | .next t => f t
  | _ => false

/-- The reply bytes at port A, result byte first. -/
def replyA (t : State) : List Byte := (t.ports.a.reply.map fun r => r.bytes).getD []

/-- The bits of a run of bytes, most significant first. -/
def bitsOf (bs : List Byte) : List Bool := bs.flatMap fun x => (List.range 8).map fun k => x.getLsbD (7 - k)

/-- The frame of a sample set. -/
def frame (seq faults : Byte) (ph pr : Nat) (theta phi psi : Int) : List Bool :=
  bitsOf ([seq, faults] ++ u16 ph ++ u16 pr ++ i16 theta ++ i16 phi ++ i16 psi)

/-- A sample set of no faults at the pressures of the worked case (4.9). -/
def setAt (theta phi : Int) : SampleSet := ⟨1, 0, 18500, 1200, theta, phi, 0⟩

/-- Its frame. -/
def sample (theta phi : Int) : List Bool := frame 1 0 18500 1200 theta phi 0

/-- Sampling runs and the tracker is in `t`, all else as after reset. -/
def inState (t : Tracker) : State := { State.reset with sp.sampling := .running, ct.tracker := t }

/-- In WEIGHING with the highest window angle `high`. -/
def weighing (high : Int) : State := { inState .weighing with ct.highTheta := some high, we.windowOpen := true }

/-- A pass of mass `m` with no flags. -/
def passOf (m : Int) : Pass := ⟨some m, PassFlags.none, 5, 42, 0⟩

/-- Entry `n`, credited with mass `m`. -/
def entry (n m : Nat) : PassEntry := ⟨n, some m, PassFlags.none, m⟩

/-- `n` entries of 1,000 kg each. -/
def entries (n : Nat) : List PassEntry := (List.range n).map fun k => entry (k + 1) 1000

/-- Load 42 of the worked sequence with its first three passes (6.10). -/
def load42 : Load := ⟨42, some 1207, 3, some 90000, some .b, [entry 1 18640, entry 2 19880, entry 3 17955], 56475, .filling, 0⟩

/-- LT at the start of the worked sequence, with a pass of mass `m` held (6.10). -/
def truck1207 (m : Int) : Lt :=
  { Lt.reset with
    held := some (passOf m), load := load42, nextNumber := 43, nextTruck := some ⟨some 1311, 3, some 92000, .b⟩
    materials := Lt.reset.materials.set 3 ⟨ascii ['S', 'H', 'O', 'T'], 1750⟩
    settings := { LoadRec.reset with autoClose := true } }

/-- In RAISED, the dwell timer due, with this LT. -/
def dumping (lt : Lt) : State :=
  { inState .raised with ct.dwellTimer := .counting 30, ct.cycleRef := .counting 4500, lt := lt }

/-- A line update is due at which L3 alone turns active, with function `f`. -/
def press (f : LineFn) (s : State) : State :=
  { s with
    lm.settings.funcs := (Eight.fill LineFn.unused).set 3 f, lm.raw := 0x08, lm.updateDue := true
    lm.diff := (Eight.fill 0).set 3 5, lm.firstTick := true, lm.levels.dumpConfigured := f == .dumpSwitch
    ct.dumpConfigured := f == .dumpSwitch }

/-- The calibration table and the window of the worked case (4.9). -/
def workedCu : Cu :=
  { Cu.reset with
    table := .valid, mref := some 10000, origin := some .calibrated
    tare := ⟨12900000, 13000000, 13150000, 13300000, 13400000, 13450000, 13500000, 13600000⟩
    loaded := ⟨19000000, 19200000, 19400000, 19700000, 19800000, 19700000, 19500000, 19400000⟩ }

/-- The sums of the worked case's window; the bins that do not qualify have a sum the spec does not give. -/
def workedWe : We :=
  { We.reset with
    windowOpen := true, gross := ⟨0, 0, 100600000, 102600000, 77400000, 76350000, 100100000, 0⟩
    counts := ⟨2, 2, 4, 4, 3, 3, 4, 1⟩, samples := 23, pitchSum := 966
    weigh := { WeighRec.reset with kp := -25 }, zt := 35 }

/-- Port A holds the hold, and CU is in `c` with the scratch tare of the worked calibration (5.10). -/
def calibrating (c : CalState) (s : State) : State :=
  { s with
    ex.hold := some .a, ex.holdTimer := .counting 0, cu.cal := c, cu.scratchTare := some workedCu.tare
    cu.scratchMref := some 10000 }

/-- A closed load of number `n`. -/
def closed (n : Nat) : ClosedLoad := closedRecord .button { load42 with number := n }

/-- A message of `n` bytes with SHOW set. -/
def message (n : Nat) : Message := ⟨List.replicate n 0x41, true, false, false⟩

/-! ### Ill-formed commands are refused (WellFormed) -/

theorem test_wf_order_unit_unknown_code : (Instr.orderUnit .a 0x7F).wf = false := by decide
theorem test_wf_order_unit_code_without_parameters : (Instr.orderUnit .a 0x01).wf = false := by decide
theorem test_wf_bad_order_known_code : (Instr.badOrder .a 0x20).wf = false := by decide
theorem test_wf_deposit_length : (Instr.depositMessage .a 3 0 [1, 2]).wf = false := by decide
theorem test_wf_put_text_length_zero_is_64 : (Instr.putText .a 0 []).wf = false := by decide
theorem test_wf_accepts :
    (Instr.orderUnit .a 0x20).wf = true ∧ (Instr.badOrder .a 0x7F).wf = true
      ∧ (Instr.depositMessage .a 2 0 [1, 2]).wf = true := by decide

/-- The table gives no row bits, so no word spells a command. -/
theorem test_decode_none : decodeTableWord 8 0x01 = none := rfl

/-! ### Arithmetic and text (00 0.4, Chapter 8) -/

/-- 2.5 becomes 3, −2.5 becomes −3 (00 0.4.4). -/
theorem test_round : roundDiv 5 2 = 3 ∧ roundDiv (-5) 2 = -3 ∧ roundDiv 1934 100 = 19 := by decide

/-- The examples of R139. -/
theorem test_mass_field :
    massField 19019 = ascii [' ', ' ', '1', '9', '.', '0'] ∧ massField 75494 = ascii [' ', ' ', '7', '5', '.', '5']
      ∧ massField (-1114) = ascii [' ', ' ', '-', '1', '.', '1'] ∧ massField (-40) = ascii [' ', ' ', ' ', '0', '.', '0']
      ∧ massField (-5000) = ascii [' ', ' ', '-', '5', '.', '0'] ∧ massField 780000 = ascii [' ', '7', '8', '0', '.', '0']
      ∧ massField (-779000) = ascii ['-', '7', '7', '9', '.', '0'] := by decide

/-! ### Samples, the tracker and the weigh (Table 1-3, Table 4-3, 3.9, 4.9) -/

/-- Table 1-3. -/
theorem test_raw_force :
    rawForce WeighRec.reset (setAt 0 0).channels = some 25215800
      ∧ rawForce WeighRec.reset (SampleSet.channels ⟨0, 0, 46000, 1300, 0, 0, 0⟩) = some 62608200
      ∧ rawForce WeighRec.reset (SampleSet.channels ⟨0, 0, 0, 2000, 0, 0, 0⟩) = some (-1572000)
      ∧ rawForce WeighRec.reset (SampleSet.channels ⟨0, 1, 0, 2000, 0, 0, 0⟩) = none := by decide

/-- Table 4-3 and the samples of 4.9. -/
theorem test_bins :
    WeighRec.reset.bin (-96) = some 0 ∧ WeighRec.reset.bin (-70) = some 1 ∧ WeighRec.reset.bin (-71) = some 0
      ∧ WeighRec.reset.bin 118 = some 7 ∧ WeighRec.reset.bin 140 = none ∧ WeighRec.reset.bin (-101) = none := by decide

/-- 3.9 at 0.40 s, at 1.70 s (−29 holds at −20 − 10 = −30) and at 1.75 s (−31 is lowered, and does not set the memory). -/
theorem test_sample_lift :
    after (exec (.receivedSampleSet (sample (-248) 240)) (inState .low)) (fun t =>
      t.ct.tracker == .lifting && t.ct.belowStart) = true
      ∧ after (exec (.receivedSampleSet (sample (-29) 230)) (weighing (-20))) (fun t => t.ct.tracker == .weighing) = true
      ∧ after (exec (.receivedSampleSet (sample (-31) 230)) (weighing (-20))) (fun t =>
        t.ct.tracker == .lifting && !t.ct.belowStart && t.ct.abortCause == some .lowered
          && t.lq.counters.aborts == 1 && t.sd.advisories == [.weighAborted]) = true := by
  decide

/-- The worked case of 4.9. -/
theorem test_pass_mass :
    passMass workedCu workedWe = 19019 ∧ correctedMass workedCu workedWe = 19054 ∧ workedWe.meanPitch = 42
      ∧ (weighedPass workedCu workedWe).flags = PassFlags.none := by decide

/-- Two variants of 4.9: MINS 4, and PITCH_LIMIT 40. -/
theorem test_pass_mass_variants :
    passMass workedCu { workedWe with weigh.minS := 4 } = 18998
      ∧ passMass workedCu { workedWe with weigh.pitchLimit := 40 } = 19028 := by decide

/-- 3.9 at 4.90 s: a sample at 141 completes the window, and the pass of 4.9 is held. The empty lift of 5.10: bin 3's mean lies halfway
and goes away from zero. The second loaded lift of 5.10: the commit. -/
theorem test_sample_completes_window :
    after (exec (.receivedSampleSet (sample 141 0)) { weighing 138 with we := workedWe, cu := workedCu }) (fun t =>
      t.ct.tracker == .raised && t.lt.held == some ⟨some 19019, PassFlags.none, 5, 42, 0⟩) = true
      ∧ after (exec (.receivedSampleSet (sample 140 0)) { calibrating .tareLift (weighing 138) with
        we := { workedWe with
          gross := ⟨38700000, 39000000, 52600000, 53199998, 40200000, 40350000, 54000000, 40800000⟩
          counts := ⟨3, 3, 4, 4, 3, 3, 4, 3⟩ } }) (fun t =>
      t.cu.cal == .loadedWait && t.cu.scratchTare == some workedCu.tare && t.sd.advisories == [.calLiftLoad]) = true
      ∧ after (exec (.receivedSampleSet (sample 140 0)) { calibrating .loadedLift (weighing 138) with
        we := { workedWe with
          gross := ⟨57000000, 76800000, 58200000, 78800000, 59400000, 78800000, 58500000, 58200000⟩
          counts := ⟨3, 4, 3, 4, 3, 4, 3, 3⟩ } }) (fun t =>
      t.cu.table == .valid && t.cu.loaded == workedCu.loaded && t.cu.mref == some 10000 && t.cu.cal == .idle
        && t.sd.advisories == [.calDone] && t.ex.pending.a == 0x0004) = true := by
  decide +kernel

/-- 3.9 at 6.60 s: dump entry with the cycle reference at 450 tenths. -/
theorem test_dwell_counts_cycle :
    after (exec .dwellTimerExpiry (dumping Lt.reset)) (fun t =>
      t.ct.tracker == .dumping && t.ct.latestCycle == some 450 && t.lq.counters.cycles == 1
        && t.lq.counters.cycleTimeSum == 450 && t.ct.cycleRef == .counting 0) = true := by decide

/-- The window timer at 8.0 s. -/
theorem test_window_timeout :
    after (exec .windowTimerExpiry { weighing 0 with ct.windowTimer := .counting 800 }) (fun t =>
      t.ct.tracker == .lifting && t.ct.abortCause == some .timeout && !t.we.windowOpen) = true := by decide

/-- 250 ms without an accepted sample (R12). -/
theorem test_sample_loss :
    after (exec .sampleLoss { inState .raised with sp.lossTimer := .counting 25 }) (fun t =>
      t.ct.tracker == .sensorWait && t.sp.sensorFault && t.ex.pending.a == 0x0001) = true := by decide

/-! ### The tally (6.10, 6.11, 7.7) -/

/-- Pass 4 of 6.10: total 75,494, FILLING, remaining 14,506, advice 79 %. Pass 5: TARGET, and the auto-close of load 42. -/
theorem test_dump_entry_credits :
    after (exec .dwellTimerExpiry (dumping (truck1207 19019))) (fun t =>
      t.lt.load.total == 75494 && t.lt.load.state == .filling && t.remaining == some 14506 && t.advice == some 79
        && t.capacity == 18375 && t.ex.pending.b == 0x0100) = true
      ∧ after (exec .dwellTimerExpiry (dumping { truck1207 15620 with load :=
        { load42 with passes := load42.passes ++ [entry 4 19019], total := 75494 } })) (fun t =>
      t.lt.load.number == 43 && t.lt.load.truck == some 1311 && t.lt.nextNumber == 44
        && t.sd.advisories == [.targetReached, .loadClosed 42]
        && (t.lq.queue.map fun c => (c.load.total, c.load.passes.length)) == [(91114, 5)]) = true := by
  decide

/-- The TIP_OFF press of 6.10; NEXT_TRUCK of 6.11, which closes with cause BUTTON and keeps the held pass; the UNDO press at the end of
6.10: pass 5 goes, and the load is FILLING again. -/
theorem test_buttons :
    after (exec .lineUpdate (press .tipOff { inState .raised with lt := truck1207 21300 })) (fun t =>
      (t.lt.held.map fun x => (x.mass, x.flags.tipped, x.reweighs)) == some (some 21300, true, 0)
        && t.sd.advisories == [.reWeigh]) = true
      ∧ after (exec .lineUpdate (press .nextTruck { inState .raised with lt := truck1207 11900 })) (fun t =>
      (t.lq.queue.map fun c => c.cause) == [.button] && t.lt.held.isSome && t.lt.load.number == 43) = true
      ∧ after (exec .lineUpdate (press .undo { inState .raised with lt := { truck1207 0 with
        held := none, load := { load42 with
          passes := load42.passes ++ [entry 4 19019, entry 5 21300], total := 96794, state := .over } } })) (fun t =>
      t.lt.load.total == 75494 && t.lt.load.state == .filling && t.lq.counters.undone == 1 && !t.lt.held.isSome) = true := by
  decide

/-- SHIFT_END of 7.7. -/
theorem test_shift_end :
    after (exec (.shiftEnd .a) { State.reset with
        lt.load := { Load.reset with number := 43, passes := [entry 1 18210, entry 2 17480], total := 35690, state := .filling }
        lq.counters := ⟨15, 6612, 13, 1, 1, 2, 2, 180074, 0, 2105⟩, lq.shiftNo := 7 }) (fun t =>
      t.lq.shiftNo == 8 && t.lq.counters == Counters.zero
        && t.lq.lastSummary == some ⟨7, ⟨15, 6612, 13, 1, 1, 2, 3, 215764, 0, 2105⟩, some 43⟩) = true := by decide

/-- R125: the oldest, another, none, and number 0. -/
theorem test_release_load :
    after (exec (.releaseLoad .a 41) { State.reset with lq.queue := [closed 41, closed 42] }) (fun t =>
        replyA t == [0, 1, 1, 0, 42]) = true
      ∧ after (exec (.releaseLoad .a 42) { State.reset with lq.queue := [closed 41, closed 42] }) (fun t =>
        replyA t == [ResultCode.notOldest.code, 2, 1, 0, 41]) = true
      ∧ after (exec (.releaseLoad .a 9) { State.reset with lq.queue := [closed 41] }) (fun t =>
        replyA t == [ResultCode.stale.code, 1, 1, 0, 41]) = true
      ∧ after (exec (.releaseLoad .a 0) State.reset) (fun t => replyA t == [ResultCode.badParam.code, 0]) = true := by decide

/-! ### Calibration (5.10) -/

/-- CAL_TARE with the hold FREE, and in port A's hands. -/
theorem test_cal_tare :
    after (exec (.calTare .a) State.reset) (fun t => replyA t == [ResultCode.notHolder.code]) = true
      ∧ after (exec (.calTare .a) (calibrating .idle State.reset)) (fun t =>
        t.cu.cal == .tareArmed && t.sd.advisories == [.calLiftEmpty]) = true := by decide

/-- TAKE_HOLD with the hold FREE. -/
theorem test_take_hold :
    after (exec (.takeHold .a) State.reset) (fun t => t.ex.hold == some .a && replyA t == [0, 0]) = true := by decide

/-! ### Lines (2.7) -/

/-- Tick t7 of 2.7: the fifth differing tick makes an update due; t6, the fourth, does not. -/
theorem test_line_ticks :
    after (exec (.lineSampleTick 0x08) { State.reset with lm.firstTick := true, lm.diff := (Eight.fill 0).set 3 4 }) (fun t =>
        t.lm.updateDue && t.lm.debounced == 0) = true
      ∧ after (exec (.lineSampleTick 0x08) { State.reset with lm.firstTick := true, lm.diff := (Eight.fill 0).set 3 3 })
        (fun t => !t.lm.updateDue && t.lm.diff.get 3 == 4) = true := by decide

/-- Tick t24 of 2.7: L0 turns, PARK goes to CT, and port B's watch enters match. -/
theorem test_line_update_park_watch :
    after (exec .lineUpdate { inState .low with
        lm.firstTick := true, lm.raw := 0x01, lm.updateDue := true, lm.diff := (Eight.fill 0).set 0 5
        lm.watch := ⟨Watch.reset, ⟨.matching false, 0x01, 0x01, none, 0⟩⟩ }) (fun t =>
      t.lm.debounced == 0x01 && t.ct.park && t.ct.tracker == .parked
        && t.lm.watch.b == ⟨.matching true, 0x01, 0x01, some 0x01, 1⟩ && t.ex.pending.b == 0x2000
        && t.ex.pending.a == 0) = true := by decide

/-! ### The strip (8.10, 8.11) -/

/-- 8.10: the snapshot after pass 4. -/
theorem test_refresh_frame :
    after (exec .refreshExpiry { State.reset with
        sd.refreshTimer := .counting 5, cu.table := .valid
        lt := { truck1207 0 with held := none, load :=
          { load42 with passes := load42.passes ++ [entry 4 19019], total := 75494 } } }) (fun t =>
      ((t.sd.snapshot.getD []).take 47) ==
        [0x60, 0xFF, 0xFF, 0xFF, 0x80, 0x00] ++ ascii [' ', ' ', '1', '9', '.', '0', ' ', ' ', '7', '5', '.', '5']
          ++ ascii [' ', ' ', '1', '4', '.', '5', ' ', '4'] ++ [0]
          ++ ascii ['L', 'A', 'S', 'T', ' ', 'P', 'A', 'S', 'S', ' ', '7', '9', '%', ' ', ' ', ' ', ' ', ' ', ' ', ' ']
        && t.sd.sending) = true := by decide

/-- 8.11: port A's ten characters. -/
theorem test_put_text :
    after (exec (.putText .a 10 (ascii ['A', 'B', 'C', 'D', 'E', 'F', 'G', 'H', 'I', 'J'])) { State.reset with
        sd.windows := ⟨some ⟨2, 5, 0, 1, .columnFirst, 2, 0⟩, none⟩ }) (fun t =>
      replyA t == [0, 3, 0] && ((textRow t.sd.text 0).drop 2).take 4 == ascii ['I', 'C', 'E', 'G']
        && ((textRow t.sd.text 1).drop 2).take 4 == ascii ['J', 'D', 'F', 'H']) = true := by decide

/-- 8.11: port B's five characters, two of them outside the strip's codes. -/
theorem test_put_text_spaces :
    after (exec (.putText .b 5 [0x78, 0x79, 0x2D, 0x31, 0x32]) { State.reset with
        sd.windows := ⟨none, some ⟨4, 9, 1, 1, .rowFirst, 4, 1⟩⟩ }) (fun t =>
      ((textRow t.sd.text 1).drop 4).take 5 == [0x20, 0x20, 0x2D, 0x31, 0x32]
        && (t.ports.b.reply.map fun r => r.bytes) == some [0, 9, 1]) = true := by decide

/-! ### Link ports (10.6) -/

/-- The deposit of 10.6: the reply holds the stored length, and port B has MSG_ARRIVED. -/
theorem test_deposit :
    after (exec (.depositMessage .a 12 1 (List.replicate 12 0x41)) State.reset) (fun t =>
      replyA t == [0, 0x0C] && t.ex.slots.a == some (message 12) && t.ex.pending.b == 0x0400) = true := by decide

/-- READ_LIVE in the middle of a deposit of five bytes: the slot is stored TRUNCATED, and READ_LIVE is then taken. -/
theorem test_abandoned_deposit :
    after (exec (.readLive .a) { State.reset with
        ex.deposits := ⟨some 5, none⟩
        ports := ⟨{ Lp.reset with
          frame := .params, order := some ⟨0x20, [0x0C, 0x01] ++ List.replicate 5 0x41, some 7⟩ }, Lp.reset⟩ }) (fun t =>
      t.ex.slots.a == some { message 5 with truncated := true } && t.ports.a.lastResult == .ok
        && (replyA t).length == 64) = true := by decide

/-- Reply bit 5 of 10.6, bit 13 of the reply, is released and reads low. -/
theorem test_contention :
    after (exec (.contention .a) { State.reset with
        ports := ⟨{ Lp.reset with frame := .reply, reply := some ⟨[0x00, 0x0C], 13⟩ }, Lp.reset⟩ }) (fun t =>
      t.ports.a.contentions == 1 && t.ports.a.contentionSeen && t.ex.pending.a == 0x8000
        && (t.ports.a.reply.map fun r => r.pos) == some 14) = true := by decide

/-- The stray and the PORT_STATUS of 10.6. -/
theorem test_stray_and_status :
    after (exec (.stray .a 0x41) State.reset) (fun t => t.ports.a.strays == 1 && t.ports.a.lastResult == .stray) = true
      ∧ after (exec (.portStatus .a) { State.reset with
          ports := ⟨{ Lp.reset with strays := 1, contentions := 1, lastResult := .stray }, Lp.reset⟩ }) (fun t =>
        replyA t == [0, ResultCode.stray.code, 1, 1] && t.ports.a.lastResult == .ok) = true := by decide

/-- R169: while SEL is high no clock, no unit and no order row does anything; a falling edge of SEL lets the row be taken. -/
theorem test_sel_high :
    after (exec (.run .a) { State.reset with ports := ⟨{ Lp.reset with selected := false }, Lp.reset⟩ }) (fun t =>
        t.ports.a.frame == .expectOrder && t.sp.sampling == .stopped) = true
      ∧ after (exec (.replyClock .a true) { State.reset with ports := ⟨{ Lp.reset with selected := false }, Lp.reset⟩ })
        (fun t => t.ports.a.shift == []) = true
      ∧ after (exec (.selFall .a) { State.reset with ports := ⟨{ Lp.reset with selected := false }, Lp.reset⟩ })
        (fun t => t == State.reset) = true := by decide

/-- R169, 00 0.5: SEL goes high while RESET holds the part; after the release a clock samples nothing until SEL falls. -/
theorem test_sel_edge_in_reset :
    after (steps 4 { State.reset with pending := [.deviceReset, .selRise .a, .resetRelease, .replyClock .a true] }) (fun t =>
        t.held == false && t.ports.a == { Lp.reset with selected := false }) = true
      ∧ after (steps 2 { State.reset with
          ports := ⟨{ Lp.reset with selected := false }, Lp.reset⟩, pending := [.selFall .a, .replyClock .a true] }) (fun t =>
        t.ports.a == { Lp.reset with shift := [true] }) = true := by decide

/-- R74: a pending record that changes FILTER from 4 to 1, applied by this sample's LOW entry, is in force from the next sample: F_f
is the mean of the two values in the history, 25,215,800 and 15,215,800, not the newest value. -/
theorem test_filter_at_low_entry :
    after (exec (.receivedSampleSet (sample (-111) 0)) { inState .raised with
        we.history := [15215800], we.pendingWeigh := some { WeighRec.reset with filter := 1 } }) (fun t =>
      t.ct.tracker == .low && t.we.weigh.filter == 1 && t.we.latestF == some 20215800) = true := by decide

/-! ### Witnesses: for each obligation with hypotheses, states and operands that meet them, clause by clause -/

/-- A due timer is not early; a timer at one tick less is. -/
theorem early (m n p : Nat) (h : Timer.counting m = Timer.counting n) (hp : m < p) : n < p := by cases h; exact hp

theorem witness_StepTakesFront :
    (State.reset.withCommand .deviceReset).pending = .deviceReset :: [] ∧ State.reset.pending = [] := by decide

theorem witness_DeviceResetAndRelease_EveryCommandCompletes :
    ({ State.reset with held := true }).held = true ∧ State.reset.held = false
      ∧ Instr.stripFrameSent ≠ .deviceReset ∧ Instr.stripFrameSent ≠ .resetRelease := by decide

theorem witness_SampleFrames :
    State.reset.held = false ∧ State.reset.sp.sampling = .stopped ∧ (inState .low).sp.sampling = .running
      ∧ (List.replicate 95 true).length ≠ 96 ∧ (List.replicate 97 true).length ≠ 96 := by decide

theorem witness_SampleSetBookkeeping :
    (inState .low).held = false ∧ (inState .low).sp.sampling = .running
      ∧ (∀ f ∈ [(0x00 : Byte), 0x04, 0x10, 0xE0], (sampleSetOf (frame 7 f 1 2 3 4 5)).map SampleSet.faults = some f)
      ∧ (0x04 : Byte).getLsbD 2 = true ∧ (0x10 : Byte) &&& 0x1F ≠ 0 ∧ (0xE0 : Byte) &&& 0x1F = 0
      ∧ ({ inState .low with sp.heldAngle := 3, sp.lastTheta := some 0 }).sp.heldAngle = 3
      ∧ ({ inState .low with sp.heldAngle := 2, sp.lastTheta := some 0 }).sp.lastTheta ≠ none
      ∧ ({ inState .low with sp.sensorFault := true, sp.cleanRun := 9 }).sp.sensorFault = true
      ∧ (inState .low).thetaUsed (setAt 5 0) = some 5
      ∧ ({ inState .low with sp.heldAngle := 2, sp.lastTheta := some 7 }).thetaUsed { setAt 5 0 with faults := 4 } = some 7
      ∧ ({ inState .low with sp.heldAngle := 3, sp.lastTheta := some 7 }).thetaUsed { setAt 5 0 with faults := 4 } = none := by
  decide

/-- The two ends of R10's range. -/
theorem witness_RawForce :
    weighFirstBad { WeighRec.reset with aHead := 2000, aRod := 1999 } [CycleRec.reset] = none
      ∧ rawForce { WeighRec.reset with aHead := 2000, aRod := 1999 } (SampleSet.channels ⟨0, 0, 0, 45000, 0, 0, 0⟩)
        = some (-179910000)
      ∧ rawForce { WeighRec.reset with aHead := 2000, aRod := 1999 } (SampleSet.channels ⟨0, 0, 45000, 0, 0, 0, 0⟩)
        = some 180000000 := by decide

/-- The state with the sample-loss timer at `n`. -/
def lossAt (n : Nat) (t : Tracker) : State := { inState t with sp.lossTimer := .counting n }

theorem witness_SampleLossTaken :
    (lossAt 25 .raised).sp.lossTimer = .counting 25 ∧ (lossAt 25 .raised).ct.tracker ≠ .weighing
      ∧ (lossAt 25 .parked).ct.tracker ≠ .weighing ∧ (lossAt 25 .weighing).ct.tracker = .weighing
      ∧ ∀ n, (lossAt 24 .raised).sp.lossTimer = .counting n → n < 25 :=
  ⟨rfl, by decide, by decide, rfl, fun n h => early 24 n 25 h (by decide)⟩

/-- The trace with this owner, this mode and `n` entries, in a running part. -/
def tracing (owner : Option Port) (mode : TraceMode) (n : Nat) : State :=
  { inState .low with
    sp.trace := ⟨List.replicate n ⟨1, 0, some 0, some 0, some 0, 0, 0, ⟨false, false, false⟩, some 0, .low⟩, owner, mode, 0⟩ }

theorem witness_TraceBuffer :
    (tracing (some .b) .ring 0).ready .a
      ∧ (2 < (3 : Byte).toNat ∧ (2 : Byte).toNat ≤ 2)
      ∧ ((tracing (some .b) .ring 0).sp.trace.owner = some (other .a) ∧ (tracing (some .b) .ring 0).sp.trace.mode ≠ .off)
      ∧ ((tracing (some .b) .off 0).sp.trace.mode = .off ∧ (tracing none .off 0).sp.trace.owner ≠ some (other .a))
      ∧ ((tracing (some .a) .ring 0).sp.trace.owner = some .a ∧ (tracing none .off 0).sp.trace.owner ≠ some .a)
      ∧ ((0 : Byte).toNat < 1 ∧ 8 < (9 : Byte).toNat ∧ 1 ≤ (1 : Byte).toNat ∧ (8 : Byte).toNat ≤ 8)
      ∧ (∀ n ∈ [63, 127, 128], (tracing (some .a) .ring n).sp.trace.mode = .ring
        ∧ (tracing (some .a) .ring n).sp.trace.entries.length = n)
      ∧ ((tracing (some .a) (.lift .waiting) 0).sp.trace.entries = [] ∧ (tracing (some .a) (.lift .waiting) 0).ct.tracker ≠ .lifting)
      ∧ (∀ n ∈ [0, 63, 126, 127], (tracing (some .a) (.lift .recording) n).sp.trace.entries.length = n ∧ n < 128)
      ∧ (tracing (some .a) (.lift .done) 5).sp.trace.mode = .lift .done
      ∧ (sampleSetOf (sample 0 0)).isSome := by
  refine ⟨⟨rfl, rfl, rfl⟩, ?_⟩; decide

/-- The hypothesis of the statements on an accepted sample. -/
theorem good (theta phi : Int) (s : State) (h : sampleSetOf (sample theta phi) = some (setAt theta phi))
    (hs : s.held = false) (hr : s.sp.sampling = .running) (hc : theta = min 700 (max (-600) theta)) :
    goodSample (sample theta phi) (setAt theta phi) theta s := by
  refine ⟨hs, hr, h, ?_⟩
  unfold State.thetaUsed
  have flag : (setAt theta phi).faults.getLsbD 2 = false := by change (0 : Byte).getLsbD 2 = false; decide
  rw [if_neg (by rw [flag]; decide)]
  exact congrArg some hc.symm

/-- A set with the θ flag set, in a state that holds θ 0 for the third time. -/
theorem good_held (t : Tracker) :
    goodSample (frame 1 4 18500 1200 5 0 0) ⟨1, 4, 18500, 1200, 5, 0, 0⟩ 0
      { inState t with sp.lastTheta := some 0, sp.heldAngle := 2 } := ⟨rfl, rfl, by decide, rfl⟩

/-- A record of another geometry. -/
def otherGeometry : WeighRec := { WeighRec.reset with thetaEnd := 150 }

/-- Clauses of LiftEntries at θLOW, one below it, at θLOW − HYST and one below it, and at θSTART and one below it, with the memory set
and clear, and with records pending. -/
theorem witness_LiftEntries :
    (∀ m, goodSample (sample (-250) 0) (setAt (-250) 0) (-250) (inState .low)
        ∧ goodSample (sample (-251) 0) (setAt (-251) 0) (-251) (inState .low)
        ∧ goodSample (sample (-260) 0) (setAt (-260) 0) (-260) { inState .lifting with ct.belowStart := m }
        ∧ goodSample (sample (-261) 0) (setAt (-261) 0) (-261) { inState .lifting with
          ct.belowStart := m, we.pendingWeigh := some otherGeometry, ct.pendingCycle := some CycleRec.reset }
        ∧ goodSample (sample (-100) 0) (setAt (-100) 0) (-100) { inState .lifting with ct.belowStart := m }
        ∧ goodSample (sample (-101) 0) (setAt (-101) 0) (-101) { inState .lifting with ct.belowStart := m })
      ∧ (inState .low).ct.tracker = .low ∧ (inState .lifting).ct.tracker = .lifting
      ∧ (inState .low).ct.cycle.thetaLow = -250 ∧ (inState .low).ct.cycle.thetaLow - (inState .low).ct.cycle.hyst = -260
      ∧ (inState .low).we.weigh.thetaStart = -100 := by
  refine ⟨fun m => ⟨good _ _ _ ?_ rfl rfl ?_, good _ _ _ ?_ rfl rfl ?_, good _ _ _ ?_ rfl rfl ?_, good _ _ _ ?_ rfl rfl ?_,
    good _ _ _ ?_ rfl rfl ?_, good _ _ _ ?_ rfl rfl ?_⟩, ?_⟩ <;> decide

/-- 3.9 at 1.75 s. -/
theorem witness_LoweredAborts :
    goodSample (sample (-31) 230) (setAt (-31) 230) (-31) (weighing (-20)) ∧ (weighing (-20)).ct.tracker = .weighing
      ∧ (weighing (-20)).ct.highTheta = some (-20) ∧ -31 < (weighing (-20)).we.weigh.thetaEnd
      ∧ -31 < -20 - ((weighing (-20)).ct.cycle.hyst : Int) := by
  refine ⟨good _ _ _ ?_ rfl rfl ?_, ?_, ?_, ?_, ?_⟩ <;> decide

/-- A window with five qualifying bins, and one with none, at θEND. -/
theorem witness_WindowGivesPass :
    goodSample (sample 140 0) (setAt 140 0) 140 { weighing 138 with we := workedWe }
      ∧ ({ weighing 138 with we := workedWe }).we.weigh.thetaEnd ≤ 140
      ∧ (eightIndices.filter fun b => decide (workedWe.weigh.minS ≤ workedWe.counts.get b)).length = 5
      ∧ ({ weighing 138 with we := workedWe }).cu.cal = .idle
      ∧ (eightIndices.filter fun b => decide ((weighing 138).we.weigh.minS ≤ (weighing 138).we.counts.get b)).length = 0 := by
  refine ⟨good _ _ _ ?_ rfl rfl ?_, ?_, ?_, ?_, ?_⟩ <;> decide

/-- Below θSTART − HYST and at it; at θDUMP with φ at φDUMP and one above; at φDUMP + HYST; a held θ; a pending WEIGH record of the
same and of another geometry, with no calibration and with one. -/
theorem witness_CarriedSamples :
    (∀ t, goodSample (sample (-111) 0) (setAt (-111) 0) (-111) (inState t)
        ∧ goodSample (sample (-110) 0) (setAt (-110) 0) (-110) (inState t)
        ∧ goodSample (sample 200 (-300)) (setAt 200 (-300)) 200 (inState t)
        ∧ goodSample (sample 200 (-299)) (setAt 200 (-299)) 200 (inState t)
        ∧ goodSample (sample 190 (-290)) (setAt 190 (-290)) 190 (inState t)
        ∧ goodSample (sample (-111) 0) (setAt (-111) 0) (-111) { inState t with we.pendingWeigh := some otherGeometry }
        ∧ goodSample (sample (-111) 0) (setAt (-111) 0) (-111) { calibrating .tareArmed (inState t) with
          we.pendingWeigh := some otherGeometry })
      ∧ (inState .raised).phiUsed (setAt 200 (-300)) = -300
      ∧ ({ inState .raised with sp.lastPhi := some 9 }).phiUsed { setAt 200 (-300) with faults := 8 } = 9
      ∧ (-111 : Int) < (inState .raised).we.weigh.thetaStart - (inState .raised).ct.cycle.hyst
      ∧ ¬((-110 : Int) < (inState .raised).we.weigh.thetaStart - (inState .raised).ct.cycle.hyst)
      ∧ otherGeometry.thetaEnd ≠ (inState .raised).we.weigh.thetaEnd ∧ (calibrating .tareArmed (inState .raised)).cu.cal ≠ .idle
      ∧ ({ inState .parked with ct.park := true }).ct.park = true ∧ (inState .parked).ct.park = false := by
  refine ⟨fun t => ⟨good _ _ _ ?_ rfl rfl ?_, good _ _ _ ?_ rfl rfl ?_, good _ _ _ ?_ rfl rfl ?_, good _ _ _ ?_ rfl rfl ?_,
    good _ _ _ ?_ rfl rfl ?_, good _ _ _ ?_ rfl rfl ?_, good _ _ _ ?_ rfl rfl ?_⟩, ?_⟩ <;> decide

/-- A window sample at the highest θ − HYST, one that raises it, and one just below θEND. -/
theorem witness_BinOfAngle_stays :
    goodSample (sample (-30) 0) (setAt (-30) 0) (-30) (weighing (-20))
      ∧ goodSample (sample (-19) 0) (setAt (-19) 0) (-19) (weighing (-20))
      ∧ goodSample (sample 139 0) (setAt 139 0) 139 (weighing 138)
      ∧ (weighing (-20)).ct.tracker = .weighing ∧ (weighing (-20)).ct.highTheta = some (-20)
      ∧ max (-20) (-30) - (weighing (-20)).ct.cycle.hyst = -30 ∧ (weighing 138).we.weigh.thetaEnd = 140 := by
  refine ⟨good _ _ _ ?_ rfl rfl ?_, good _ _ _ ?_ rfl rfl ?_, good _ _ _ ?_ rfl rfl ?_, ?_⟩ <;> decide

theorem witness_BinOfAngle_PassMass :
    WeighRec.reset.thetaStart + 80 ≤ WeighRec.reset.thetaEnd
      ∧ (WeighRec.reset.thetaStart ≤ -100 ∧ (139 : Int) < WeighRec.reset.thetaEnd)
      ∧ (¬(WeighRec.reset.thetaStart ≤ -101) ∧ ¬((140 : Int) < WeighRec.reset.thetaEnd))
      ∧ workedCu.mref = some 10000 ∧ 0 ≤ workedWe.weigh.pitchLimit ∧ (0 : Int) < 1 := by decide

theorem witness_CreditedMass_AutoClose :
    (dumping (truck1207 15620)).lt.held = some (passOf 15620)
      ∧ (dumping { truck1207 0 with load := { load42 with passes := entries 11 } }).lt.load.passes.length < 12
      ∧ (dumping { truck1207 0 with settings := LoadRec.reset }).lt.settings.autoClose = false
      ∧ (truck1207 15620).settings.autoClose = true
      ∧ loadStateOf LoadRec.reset { load42 with total := 56475 + 19019, passes := entries 4 } = .filling
      ∧ loadStateOf LoadRec.reset { load42 with total := 87300, passes := entries 4 } = .target
      ∧ loadStateOf LoadRec.reset { load42 with total := 94501, passes := entries 4 } = .over
      ∧ (truck1207 0).load.state ≠ .target ∧ (truck1207 0).load.state ≠ .over := by decide

/-- The window timer at WTMAX, and one tick before it. -/
theorem witness_WindowTimeout :
    ({ weighing 0 with ct.windowTimer := .counting 800 }).ct.windowTimer =
        .counting (({ weighing 0 with ct.windowTimer := .counting 800 }).we.weigh.wtMax * 10)
      ∧ (weighing 0).ct.tracker = .weighing
      ∧ ∀ n, ({ weighing 0 with ct.windowTimer := .counting 799 }).ct.windowTimer = .counting n → n < 800 :=
  ⟨by decide, by decide, fun n h => early 799 n 800 h (by decide)⟩

theorem witness_DwellExpiry_DumpCreditsPass :
    (dumping Lt.reset).ct.cycleRef = .counting 4500
      ∧ (dumping Lt.reset).ct.dwellTimer = .counting ((dumping Lt.reset).ct.cycle.dumpDwell / 10)
      ∧ (dumping Lt.reset).ct.tracker = .raised ∧ (dumping Lt.reset).cu.cal = .idle ∧ (dumping Lt.reset).lt.held = none
      ∧ ({ dumping Lt.reset with ct.tracker := .returning }).ct.tracker = .returning
      ∧ ({ dumping Lt.reset with cu.cal := .tareArmed }).cu.cal ≠ .idle
      ∧ (∀ k ∈ [0, 11, 12], (dumping { truck1207 5 with
          load := { load42 with passes := entries k }, settings := LoadRec.reset }).lt.load.passes.length = k)
      ∧ (dumping (truck1207 5)).lt.held = some (passOf 5)
      ∧ ∀ n, ({ dumping Lt.reset with ct.dwellTimer := .counting 29 }).ct.dwellTimer = .counting n → n < 30 :=
  ⟨rfl, by decide, rfl, rfl, rfl, rfl, by decide, by decide, rfl, fun n h => early 29 n 30 h (by decide)⟩

theorem witness_TimersAndTicks :
    (∀ r ∈ [(PaceRate.hz50, 2), (.hz100, 1), (.hz200, 0)],
        ({ inState .low with sp.paceRate := r.1, sp.pacer := .counting r.2 }).sp.pacer = .counting r.2)
      ∧ (∀ n, ({ State.reset with sp.pacer := .counting 1 }).sp.pacer = .counting n → n < 2)
      ∧ (∀ n, ({ State.reset with sp.pacer := .counting 0 }).sp.pacer = .counting n → n < 1)
      ∧ State.reset.sp.sampling = .stopped ∧ ({ State.reset with sp.paceRate := .off }).sp.paceRate = .off
      ∧ ({ State.reset with lt.durationTimer := .counting 100 }).lt.durationTimer = .counting 100
      ∧ ({ State.reset with lq.shiftTimer := .counting 100 }).lq.shiftTimer = .counting 100
      ∧ (∀ n, ({ State.reset with lt.durationTimer := .counting 99 }).lt.durationTimer = .counting n → n < 100)
      ∧ ∀ n, State.reset.lq.shiftTimer = .counting n → n < 100 :=
  ⟨by decide, fun n h => early 1 n 2 h (by decide), fun n h => early 0 n 1 h (by decide), rfl, rfl, rfl, rfl,
    fun n h => early 99 n 100 h (by decide), fun n h => early 0 n 100 h (by decide)⟩

theorem witness_LineTicks_LinesInOneUpdate :
    ({ State.reset with lm.firstTick := true }).lm.firstTick = true ∧ State.reset.lm.firstTick = false
      ∧ State.reset.lm.updateDue = false ∧ (∀ k, ¬State.reset.lineTurns k)
      ∧ (press .park State.reset).lm.updateDue = true ∧ (press .park State.reset).lineTurns 3
      ∧ ¬({ press .park State.reset with lm.diff := (Eight.fill 0).set 3 4 }).lineTurns 3 := by
  unfold State.lineTurns; decide

/-- The latest accepted sample had θ 20.0° and φ 0. -/
def live200 (s : State) : State := { s with sp.liveTheta := some 200, sp.livePhi := some 0 }

/-- A line update is due at which L3 alone turns inactive, with function `f`. -/
def release (f : LineFn) (s : State) : State :=
  { press f s with
    lm.debounced := 0x08, lm.raw := 0, lm.levels := ⟨f == .park, f == .dumpSwitch, f == .lights, f == .dumpSwitch⟩
    ct.park := f == .park, ct.dumpSwitch := f == .dumpSwitch, sd.lights := f == .lights }

/-- Every function of a line can be pressed, in the states that its clauses name. -/
theorem witness_ButtonPress :
    (∀ f ∈ [LineFn.park, .dumpSwitch, .lights, .tipOff, .undo, .nextTruck, .discard, .ackMsg, .unused],
        (press f State.reset).pressed 3 ∧ (press f State.reset).linesSound
          ∧ (press f State.reset).lm.settings.funcs.get 3 = f ∧ (press f State.reset).lm.levels.park = false)
      ∧ (∀ t ∈ [Tracker.stopped, .parked, .sensorWait, .dumping, .weighing],
        (press .park (inState t)).pressed 3 ∧ (press .park (inState t)).linesSound
          ∧ (press .park (inState t)).ct.tracker = t)
      ∧ load42.passes = [entry 1 18640, entry 2 19880] ++ [entry 3 17955]
      ∧ ({ press .ackMsg State.reset with
          ex.slots := ⟨none, some (message 3)⟩, ex.storeOrder := [.b] }).onDisplay = some .b := by
  unfold State.pressed State.linesSound State.fnActive State.lineTurns; decide

/-- A press and a release of a level function's line, and of an edge function's, in the states that the clauses name. -/
theorem witness_ButtonPress_levels :
    ∀ t ∈ [Tracker.raised, .returning, .dumping, .low], ∀ f ∈ [LineFn.dumpSwitch, .park, .lights, .undo],
      (live200 (press f (inState t))).pressed 3 ∧ (live200 (press f (inState t))).linesSound
        ∧ (release f (live200 (inState t))).released 3 ∧ (release f (live200 (inState t))).linesSound
        ∧ (release f (live200 (inState t))).ct.tracker = t := by
  unfold State.released State.pressed State.linesSound State.fnActive State.lineTurns; decide

theorem witness_LineWatches_StripOrders :
    State.reset.ready .a ∧ State.reset.ready .b ∧ 2 < (3 : Byte).toNat ∧ Watch.reset = State.reset.lm.watch.get .a :=
  ⟨⟨rfl, rfl, rfl⟩, ⟨rfl, rfl, rfl⟩, by decide, rfl⟩

/-- The LINES record after device reset as a write carries it, and two that fail at the first and at the last field. -/
theorem witness_LinesWrite :
    let w : LinesWire := ⟨⟨1, 4, 5, 6, 7, 8, 0, 3⟩, Eight.fill 0, Eight.fill 50⟩
    State.reset.ready .a
      ∧ (∀ k, (w.funcs.get k).toNat ≤ 8 ∧ (w.polarities.get k).toNat ≤ 1
        ∧ 10 ≤ (w.debounce.get k).toNat ∧ (w.debounce.get k).toNat ≤ 250 ∧ (w.debounce.get k).toNat % 10 = 0)
      ∧ ¬(((w.funcs.set 0 9).get 0).toNat ≤ 8) ∧ ¬(10 ≤ ((w.debounce.set 7 9).get 7).toNat) :=
  ⟨⟨rfl, rfl, rfl⟩, by decide, by decide, by decide⟩

/-- The strip's timers due and one tick early, and queues of one, two and four advisories. -/
theorem witness_StripTimers :
    ({ State.reset with sd.refreshTimer := .counting 5 }).sd.refreshTimer = .counting (State.reset.sd.refreshPeriod / 10)
      ∧ ({ State.reset with sd.blinkTimer := .counting 25 }).sd.blinkTimer = .counting 25
      ∧ (∀ q ∈ [[Advisory.reWeigh], [.reWeigh, .calDone], [.reWeigh, .calDone, .calFailed, .overload]],
        ({ State.reset with sd.advisories := q, sd.holdTime := 30, sd.holdTimer := .counting 300 }).sd.holdTimer
          = .counting (30 * 10))
      ∧ ({ State.reset with sd.sending := true, sd.snapshot := some [0x60, 0xFF] }).sd.snapshot = some [0x60, 0xFF]
      ∧ (∀ n, ({ State.reset with sd.refreshTimer := .counting 4 }).sd.refreshTimer = .counting n → n < 50 / 10)
      ∧ (∀ n, ({ State.reset with sd.blinkTimer := .counting 24 }).sd.blinkTimer = .counting n → n < 25)
      ∧ ∀ n, ({ State.reset with sd.holdTimer := .counting 299 }).sd.holdTimer = .counting n → n < 30 * 10 :=
  ⟨by decide, rfl, by decide, rfl, fun n h => early 4 n _ h (by decide), fun n h => early 24 n _ h (by decide),
    fun n h => early 299 n _ h (by decide)⟩

/-- A window open over the whole layer. -/
def wholeWindow : Window := ⟨0, 19, 0, 1, .rowFirst, 19, 1⟩

theorem witness_StripFrameShape_TextWindows :
    ({ State.reset with sd.windows := ⟨some wholeWindow, none⟩ }).stripSound ∧ wholeWindow.sound
      ∧ ({ wholeWindow with direction := .columnFirst }).sound
      ∧ ({ State.reset with sd.windows := ⟨some wholeWindow, none⟩ }).ready .a
      ∧ lengthAgrees 0 (List.replicate 64 0x41) = true ∧ lengthAgrees 65 (List.replicate 65 0x41) = true
      ∧ 64 < (65 : Byte).toNat ∧ (64 : Byte).toNat ≤ 64
      ∧ State.reset.lt.load.passes.length ≤ 12 := by
  have hw : wholeWindow.sound := by unfold Window.sound; decide
  refine ⟨⟨rfl, ?_⟩, hw, by unfold Window.sound; decide, ⟨rfl, rfl, rfl⟩, by decide, by decide, by decide, by decide, by decide⟩
  intro p w h
  cases p
  · cases h; exact hw
  · cases h

theorem witness_StripFrameShape_fields_StripFrameBits :
    State.reset.shownPass = none ∧ (dumping (truck1207 5)).shownPass = some (some 5, PassFlags.none)
      ∧ ({ State.reset with lt.held := some { passOf 0 with mass := none } }).shownPass = some (none, PassFlags.none)
      ∧ State.reset.lt.load.target = none ∧ (dumping (truck1207 5)).lt.load.target = some 90000
      ∧ (dumping (truck1207 5)).lt.settings.barMode = .loadProgress
      ∧ ({ dumping (truck1207 5) with lt.held := none }).lt.load.passes
        = [entry 1 18640, entry 2 19880] ++ [entry 3 17955] := by decide

/-- A message on display, an advisory, a sensor fault, an advice at both ends of its range, and none beyond them. -/
theorem witness_MessageLine :
    ({ State.reset with ex.slots := ⟨some (message 3), none⟩, ex.storeOrder := [.a] }).onDisplay = some .a
      ∧ ({ State.reset with sd.advisories := [.overload] }).sd.advisories = .overload :: []
      ∧ ({ State.reset with sp.sensorFault := true }).sp.sensorFault = true ∧ State.reset.onDisplay = none
      ∧ State.reset.capacity = 16800
      ∧ ({ State.reset with lt.load.target := some 16800 }).advice = some 100
      ∧ ({ State.reset with lt.load.target := some 16801 }).advice = none
      ∧ ({ State.reset with lt.load.target := some 1000, lt.load.total := 999 }).advice = some 1
      ∧ ({ State.reset with lt.load.target := some 1000, lt.load.total := 1000 }).advice = none := by decide

/-- Orders of every length, and a FULL slot. -/
theorem witness_UnitsInExpectOrder :
    State.reset.ready .a ∧ callsOf 0x7F = none ∧ callsOf 0x05 = some (.fixed (8 + 1)) ∧ callsOf 0x31 = some .text
      ∧ callsOf 0x20 = some .deposit ∧ State.reset.ex.slots.get .a = none
      ∧ ({ State.reset with ex.slots := ⟨some (message 1), none⟩ }).ex.slots.get .a ≠ none :=
  ⟨⟨rfl, rfl, rfl⟩, by decide, by decide, by decide, by decide, by decide, by decide⟩

/-- Port A in the frame state `f` with a pending order, SEL high in PAUSED alone. -/
def inFrame (f : Frame) (code : Byte) (due : Option Nat) (ended : Bool) : State :=
  { State.reset with
    ports := ⟨{ Lp.reset with
      selected := f != .paused, frame := f, order := some ⟨code, [], due⟩, ended := ended
      reply := if ended then some ⟨[9], 0⟩ else none }, Lp.reset⟩ }

theorem witness_ParameterUnits_SelEdges :
    (∀ d ∈ [none, some 1, some 2, some 9], ∀ e ∈ [true, false], ∀ c ∈ [(0x20 : Byte), 0x31],
        (inFrame .params c d e).held = false ∧ ((inFrame .params c d e).ports.get .a).frame = .params
          ∧ ((inFrame .params c d e).ports.get .a).order = some ⟨c, [], d⟩
          ∧ ((inFrame .params c d e).ports.get .a).selected = true
          ∧ ((inFrame .params c d e).ports.get .a).ended = e)
      ∧ callsOf 0x20 = some .deposit ∧ callsOf 0x31 ≠ some .deposit
      ∧ (64 : Byte).toNat ≤ 64 ∧ 64 < (65 : Byte).toNat
      ∧ ((inFrame .paused 0x31 none false).ports.get .a).selected = false
      ∧ orderWire (.putText .a 1 [0x41]) = some (.a, 0x31, [1, 0x41])
      ∧ ∀ f, ((inFrame f 0x31 none false).ports.get .a).frame = f := by
  refine ⟨by decide, by decide, by decide, by decide, by decide, by decide, by decide, fun f => rfl⟩

theorem witness_NineClocks_UnitsMakeOrder_AbandonedOrder :
    (State.reset.ports.get .a).shift = [] ∧ (State.reset.ports.get .a).frame = .expectOrder
      ∧ ((inFrame .params 0x31 none false).ports.get .a).order.isSome
      ∧ callsOf 0x01 = some (.fixed ([] : List Byte).length) ∧ callsOf 0x09 = some (.fixed [(0 : Byte), 42].length)
      ∧ (State.reset.ports.get .a).selected = true ∧ isOrderRow (.run .a) = some .a
      ∧ State.reset.ready .a ∧ orderWire (.run .a) = some (.a, 0x01, []) ∧ (Instr.run .a).wf = true
      ∧ orderWire (.writeSettingsStrip .a ⟨20, 5, 1⟩) = some (.a, 0x11, [5, 20, 5, 1])
      ∧ ([5, 20, 5, 1] ++ List.replicate 21 (0xEE : Byte)).length = 25
      ∧ (Instr.depositMessage .a 1 0 [0x41]).wf = true ∧ 5 < (6 : Byte).toNat
      ∧ (List.replicate 24 (0 : Byte)).length = 24
      ∧ (∀ d ∈ [none, some 0, some 5],
        ({ inFrame .params 0x20 (some 7) false with ex.deposits := ⟨d, none⟩ }).ex.deposits.get .a = d)
      ∧ ((inFrame .reply 0x20 none true).ports.get .a).frame = .reply
      ∧ ((inFrame .paused 0x20 none false).ports.get .a).frame = .paused := by
  unfold State.ready; decide

/-- The reply of 10.6 before its turnaround clock, at its first bit, at bit 13, which is released, and at its last bit. -/
theorem witness_ReplyClocks_WholeReplyClocked :
    (∀ k ∈ [0, 1, 13, 16], ({ State.reset with
        ports := ⟨{ Lp.reset with frame := .reply, reply := some ⟨[0x00, 0x0C], k⟩ }, Lp.reset⟩ }).ports.a.reply
          = some ⟨[0x00, 0x0C], k⟩)
      ∧ bitOfBytes [0x00, 0x0C] 12 = true ∧ bitOfBytes [0x00, 0x0C] 0 = false
      ∧ bitOfBytes [0x00, 0x0C] 15 = false ∧ bitOfBytes [0x00, 0x0D] 15 = true
      ∧ ([0x00, 0x0C] : List Byte) ≠ [] ∧ 13 < 8 * ([0x00, 0x0C] : List Byte).length
      ∧ 16 = 8 * ([0x00, 0x0C] : List Byte).length := by decide

theorem witness_LinkResetAndStatus :
    State.reset.ready .a ∧ (calibrating .tareArmed State.reset).ready .a
      ∧ (calibrating .tareArmed State.reset).ex.hold = some .a ∧ (calibrating .tareArmed State.reset).cu.cal ≠ .idle
      ∧ State.reset.ex.hold ≠ some .a ∧ (calibrating .idle State.reset).cu.cal = .idle :=
  ⟨⟨rfl, rfl, rfl⟩, ⟨rfl, rfl, rfl⟩, by decide, by decide, by decide, by decide⟩

theorem witness_RunStop :
    State.reset.ready .a ∧ State.reset.sp.sampling = .stopped ∧ State.reset.ct.tracker = .stopped
      ∧ (inState .low).ready .a ∧ (inState .low).sp.sampling = .running ∧ (inState .low).ct.tracker ≠ .stopped
      ∧ (inState .low).ct.tracker ≠ .weighing ∧ (weighing 0).ready .a ∧ (weighing 0).ct.tracker = .weighing :=
  ⟨⟨rfl, rfl, rfl⟩, rfl, rfl, ⟨rfl, rfl, rfl⟩, rfl, by decide, by decide, ⟨rfl, rfl, rfl⟩, rfl⟩

theorem witness_ReadOrders_PlainWrites :
    State.reset.ready .a ∧ ({ State.reset with cu := workedCu }).ready .a ∧ workedCu.table ≠ .empty
      ∧ State.reset.cu.table = .empty ∧ 3 < (4 : Byte).toNat ∧ PaceRate.hz200.code = 3 ∧ PaceRate.off.code = 0
      ∧ (inState .low).sp.sampling = .running ∧ 7 < (8 : Byte).toNat ∧ (7 : Byte).toNat = (7 : Fin 8).val :=
  ⟨⟨rfl, rfl, rfl⟩, ⟨rfl, rfl, rfl⟩, by decide, by decide, by decide, by decide, by decide, rfl, by decide, by decide⟩

/-- The WEIGH record after device reset as a write carries it. -/
def weighWire : WeighWire := ⟨2, 707, 393, -100, 140, 4, 3, 5, 0, 150, 80⟩

/-- The CYCLE record after device reset as a write carries it. -/
def cycleWire : CycleWire := ⟨-250, 200, -300, 10, 300⟩

theorem witness_ThresholdWrites :
    State.reset.ready .b ∧ (calibrating .tareArmed State.reset).ready .b
      ∧ (calibrating .tareArmed State.reset).ex.hold = some (other .b) ∧ State.reset.ex.hold ≠ some (other .b)
      ∧ weighFirstBad (weighOfWire weighWire) [CycleRec.reset] = none
      ∧ weighFirstBad (weighOfWire { weighWire with nCyl := 0 }) [CycleRec.reset] = some 0
      ∧ weighFirstBad (weighOfWire { weighWire with wtMax := 9 }) [CycleRec.reset] = some 10
      ∧ weighFirstBad (weighOfWire { weighWire with thetaEnd := 160 }) [CycleRec.reset] = none
      ∧ cycleFirstBad (cycleOfWire cycleWire) WeighRec.reset = none
      ∧ cycleFirstBad (cycleOfWire { cycleWire with thetaLow := -100 }) WeighRec.reset = some 0
      ∧ (weighOfWire weighWire).thetaEnd = State.reset.we.weigh.thetaEnd
      ∧ (weighOfWire { weighWire with thetaEnd := 160 }).thetaEnd ≠ State.reset.we.weigh.thetaEnd
      ∧ (inState .raised).ct.tracker ≠ .stopped
      ∧ ({ State.reset with we.pendingWeigh := some WeighRec.reset }).we.pendingWeigh = some WeighRec.reset := by
  refine ⟨⟨rfl, rfl, rfl⟩, ⟨rfl, rfl, rfl⟩, ?_⟩; decide

/-- Each field at a boundary that passes and at one that fails, and a presence byte that fails. -/
theorem witness_TargetOrders :
    State.reset.ready .a
      ∧ (1 ≤ (1 : BitVec 16).toNat ∧ (9999 : BitVec 16).toNat ≤ 9999 ∧ ¬((10000 : BitVec 16).toNat ≤ 9999))
      ∧ ((7 : Byte).toNat = (7 : Fin 8).val ∧ 7 < (8 : Byte).toNat)
      ∧ (1000 ≤ (1000 : BitVec 32).toNat ∧ ¬(1000 ≤ (999 : BitVec 32).toNat))
      ∧ ¬((2 : Byte) = 0 ∨ (2 : Byte) = 1) ∧ (1 : Byte).getLsbD 0 = true ∧ (2 : Byte).getLsbD 0 = false :=
  ⟨⟨rfl, rfl, rfl⟩, by decide, by decide, by decide, by decide, by decide, by decide⟩

theorem witness_CloseAndShiftEnd_QueueOrders :
    State.reset.ready .a ∧ State.reset.lt.load.passes = [] ∧ ({ State.reset with lt := truck1207 0 }).ready .a
      ∧ (truck1207 0).load.passes ≠ [] ∧ State.reset.lq.queue = []
      ∧ ({ State.reset with lq.queue := [closed 41, closed 42] }).lq.queue = closed 41 :: [closed 42]
      ∧ (41 : BitVec 16).toNat = (closed 41).load.number
      ∧ (∃ d ∈ [closed 42], d.load.number = (42 : BitVec 16).toNat)
      ∧ (∀ d ∈ [closed 42], d.load.number ≠ (9 : BitVec 16).toNat)
      ∧ (List.replicate 32 (closed 1)).length = 32 :=
  ⟨⟨rfl, rfl, rfl⟩, rfl, ⟨rfl, rfl, rfl⟩, by decide, rfl, rfl, by decide, by decide, by decide, by decide⟩

/-- The hold's idle timer at 20 s and one tick before it. -/
theorem witness_HoldOrders :
    State.reset.ready .a ∧ State.reset.ex.hold = none ∧ (calibrating .idle State.reset).ex.hold = some .a
      ∧ (calibrating .idle State.reset).ready .b ∧ (calibrating .idle State.reset).ex.hold = some (other .b)
      ∧ (calibrating .zeroArmed State.reset).cu.cal ≠ .idle
      ∧ ({ calibrating .zeroArmed State.reset with ex.holdTimer := .counting 2000 }).ex.holdTimer = .counting 2000
      ∧ ∀ n, ({ State.reset with ex.holdTimer := .counting 1999 }).ex.holdTimer = .counting n → n < 2000 :=
  ⟨⟨rfl, rfl, rfl⟩, rfl, rfl, ⟨rfl, rfl, rfl⟩, rfl, by decide, rfl, fun n h => early 1999 n 2000 h (by decide)⟩

/-- The table of the worked case as WRITE_TABLE carries it, and values at the ends of R81's ranges. -/
theorem witness_CalibrationOrders :
    (∀ c, (calibrating c State.reset).ready .a ∧ (calibrating c State.reset).cu.cal = c)
      ∧ (100 ≤ (100 : BitVec 16).toNat ∧ (60000 : BitVec 16).toNat ≤ 60000 ∧ ¬(100 ≤ (99 : BitVec 16).toNat))
      ∧ ((180000000 : BitVec 32).toInt ≤ 180000000 ∧ ¬((180000001 : BitVec 32).toInt ≤ 180000000))
      ∧ (-179910000 : BitVec 32).toInt = -179910000 ∧ (10000 : BitVec 32).toInt - (0 : BitVec 32).toInt = 10000
      ∧ (calibrating .idle State.reset).lt.held = none ∧ ({ State.reset with lt.held := some (passOf 1) }).lt.held ≠ none
      ∧ ({ State.reset with cu := workedCu }).cu.table = .valid ∧ State.reset.cu.table ≠ .valid := by
  refine ⟨fun c => ⟨⟨rfl, rfl, rfl⟩, rfl⟩, ?_⟩; decide

/-- The lifts of 5.10, and M1 at both ends of the range that a zero lift accepts. -/
theorem witness_CalibrationLifts :
    (∀ c, goodSample (sample 140 0) (setAt 140 0) 140 (calibrating c (weighing 138)))
      ∧ (weighing 138).ct.tracker = .weighing ∧ (weighing 138).we.weigh.thetaEnd ≤ 140
      ∧ (eightIndices.filter fun b => decide (3 ≤ (Eight.fill 3).get b)).length = 8
      ∧ (eightIndices.filter fun b => decide (3 ≤ ((Eight.fill 3).set 7 2).get b)).length = 7
      ∧ WinMarks.none.gapped = false
      ∧ roundDiv 57000000 3 - workedCu.tare.get 0 = 6100000 ∧ ¬((10000 : Int) ≤ 9999)
      ∧ correctedMass workedCu { workedWe with
          gross := Eight.tabulate fun b => 3 * (workedCu.tare.get b + (workedCu.loaded.get b - workedCu.tare.get b) / 5)
          counts := Eight.fill 3, pitchSum := 0 } = 2000 := by
  refine ⟨fun c => good _ _ _ ?_ rfl rfl ?_, ?_⟩ <;> decide

theorem witness_Messages :
    State.reset.ready .a ∧ lengthAgrees 64 (List.replicate 64 0x41) = true ∧ lengthAgrees 65 (List.replicate 65 0x41) = true
      ∧ State.reset.ex.slots.get .a = none ∧ State.reset.ex.slots.get (other .a) = none
      ∧ ({ State.reset with ex.slots := ⟨some (message 1), some (message 2)⟩ }).ex.slots.get (other .a) = some (message 2)
      ∧ ({ State.reset with ex.slots := ⟨some (message 1), some (message 2)⟩ }).ex.slots.get .a ≠ none :=
  ⟨⟨rfl, rfl, rfl⟩, by decide, by decide, rfl, rfl, rfl, by decide⟩

/-- The lowest and the highest kind pending and enabled, and none. -/
theorem witness_NoticeOrders :
    State.reset.ready .a
      ∧ (∀ k ∈ [0, 15], ({ State.reset with ex.pending := ⟨0x8001, 0⟩, ex.enable := ⟨0x8001, 0⟩ }).ex.pending.a.getLsbD k = true)
      ∧ (∀ j < 15, (0x8000 : BitVec 16).getLsbD j = false)
      ∧ (∀ j < 16, (State.reset.ex.pending.get .a).getLsbD j = false) :=
  ⟨⟨rfl, rfl, rfl⟩, by decide, by decide, by decide⟩

/-- The state after reset with one command waiting, which the step runs. -/
def waiting : State := State.reset.withCommand .stripFrameSent

theorem witness_StepKeeps : step waiting = .next State.reset := rfl

theorem witness_StepKeepsRecords : waiting.thresholdsSound ∧ waiting.calibrationSound := by
  refine ⟨⟨?_, ?_, ?_⟩, ⟨?_, ?_⟩⟩
  · unfold WeighRec.fits; decide
  · intro w h; cases h
  · intro c h; cases h
  · exact ⟨rfl, rfl, rfl, rfl⟩
  · exact ⟨rfl, rfl, rfl⟩

theorem witness_StepKeepsTally : waiting.tallySound := by
  refine ⟨⟨⟨⟨?_, rfl, ?_⟩, rfl⟩, ?_, ?_, ?_⟩, ?_, ?_, ⟨rfl, trivial⟩, ?_⟩
  · decide
  · intro e h; cases h
  · decide
  · exact ⟨fun _ => rfl, fun _ => rfl⟩
  · exact fun _ => rfl
  · decide
  · intro c h; cases h
  · decide

theorem witness_StepKeepsTracker : waiting.trackerSound ∧ waiting.holdSound := by
  unfold State.trackerSound State.holdSound; decide

theorem witness_StepKeepsExchange : waiting.exchangeSound := by
  refine ⟨?_, ?_, ?_, by decide, ?_⟩
  · intro p; cases p <;> exact ⟨by decide, fun _ => rfl, by decide, by decide, rfl, rfl, rfl⟩
  · intro p; cases p <;> rfl
  · intro p m h; cases p <;> cases h
  · intro p; cases p <;> decide

theorem witness_StepKeepsBuffers : waiting.buffersSound ∧ waiting.stripSound ∧ waiting.linesSound := by
  refine ⟨⟨⟨by decide, by decide, fun _ => ⟨rfl, rfl, rfl⟩, fun _ => rfl, fun _ => by decide, fun _ _ => rfl⟩,
    by decide, by decide, by decide, by decide, by unfold Counters.sound; decide⟩, ⟨rfl, ?_⟩, ?_⟩
  · intro p w h; cases p <;> cases h
  · unfold State.linesSound State.fnActive; decide

end Sys2Proof.Tests
end

section
/-! The machine lines' orders on a link port: LINE_STATE and SET_WATCH (2.6), and the bytes that report levels. -/

namespace Sys2Proof.Machine

open Sys2Proof

/-! ### Bytes from flags (Table 11-2) -/

theorem bitsToNat_reverse_cons (b : Bool) (bs : List Bool) :
    bitsToNat (b :: bs).reverse = Nat.bit b (bitsToNat bs.reverse) := by
  simp [bitsToNat, Nat.bit_val]

/-- Bit `k` of the number that flags spell, bit 0 first, is flag `k`. -/
theorem testBit_bitsToNat_reverse (bs : List Bool) : ∀ k, (bitsToNat bs.reverse).testBit k = bs.getD k false := by
  induction bs with
  | nil => intro k; exact Nat.zero_testBit k
  | cons b bs ih =>
    intro k
    rw [bitsToNat_reverse_cons]
    cases k with
    | zero => exact Nat.testBit_bit_zero b _
    | succ k => exact (Nat.testBit_bit_succ k b _).trans (ih k)

theorem byteOfFlags_getLsbD {bs : List Bool} (h : bs.length ≤ 8) (k : Nat) :
    (byteOfFlags bs).getLsbD k = bs.getD k false := by
  rw [byteOfFlags, BitVec.getLsbD_ofNat, testBit_bitsToNat_reverse]
  by_cases hk : k < 8
  · simp [hk]
  · rw [List.getD_eq_default bs false (by omega)]
    simp

theorem FnLevels.code_getLsbD (l : FnLevels) (k : Nat) :
    l.code.getLsbD k = [l.park, l.dumpSwitch, l.lights, l.dumpConfigured].getD k false :=
  byteOfFlags_getLsbD (by simp) k

/-! ### Active levels and the match of a watch (R20, R27) -/

theorem Lm.active_getLsbD (s : State) (k : Fin 8) : s.lm.active.getLsbD k.val = s.lineActive k := by
  simp [Lm.active, State.lineActive]

/-- A watch is in match when the active levels agree with its compare byte on every line of its mask. -/
theorem Watch.inMatch_iff (w : Watch) (active : BitVec 8) :
    w.inMatch active = true ↔ ∀ k < 8, w.mask.getLsbD k = true → active.getLsbD k = w.compare.getLsbD k := by
  have bitwise : w.inMatch active = true ↔ ∀ k < 8, ((active ^^^ w.compare) &&& w.mask).getLsbD k = false := by
    unfold Watch.inMatch
    rw [beq_iff_eq, BitVec.eq_of_getLsbD_eq_iff]
    simp
  rw [bitwise]
  refine forall₂_congr fun k _ => ?_
  simp only [BitVec.getLsbD_and, BitVec.getLsbD_xor]
  cases active.getLsbD k <;> cases w.compare.getLsbD k <;> cases w.mask.getLsbD k <;> decide

/-! ### An order row on a port that can take it -/

/-- An order row on a ready port has the order's effect, then its answer on the port (R171). -/
theorem live_takeOrder_ready {p : Port} {s : State} (hs : s.ready p) (order : State → Answer) :
    live s (State.takeOrder p order) = .next ((order s).state.answered p (order s).result (order s).reply) := by
  obtain ⟨awake, selected, expectOrder⟩ := hs
  rw [live_not_held _ awake, State.takeOrder_ready order selected expectOrder]

/-! ### LINE_STATE (R29) -/

theorem orderLineState_of_watch {p : Port} {s : State} {w : Watch} (hw : w = s.lm.watch.get p) :
    orderLineState p s =
      ⟨{ s with lm.watch := s.lm.watch.set p { w with count := 0 } }, .ok,
        [s.lm.raw, s.lm.debounced, s.lm.active, s.lm.levels.code, w.mode.code, w.mask, w.compare] ++ matchField w.mode
          ++ optField 1 (fun c => [c]) w.capture ++ u8 w.count⟩ := by
  subst hw; rfl

theorem exec_lineState_ready {p : Port} {s : State} (hs : s.ready p) :
    exec (.lineState p) s = .next ((orderLineState p s).state.answered p (orderLineState p s).result
      (orderLineState p s).reply) :=
  live_takeOrder_ready hs (orderLineState p)

/-! ### SET_WATCH (R26) -/

theorem watchModeOf_eq_none {c : Byte} (h : 2 < c.toNat) (inMatch : Bool) : watchModeOf c inMatch = none := by
  unfold watchModeOf
  split
  · omega
  · omega
  · omega
  · rfl

theorem exec_setWatch_ready {p : Port} {s : State} (hs : s.ready p) (mask compare mode : Byte) :
    exec (.setWatch p mask compare mode) s = .next ((orderSetWatch p mask compare mode s).state.answered p
      (orderSetWatch p mask compare mode s).result (orderSetWatch p mask compare mode s).reply) :=
  live_takeOrder_ready hs (orderSetWatch p mask compare mode)

/-- A mode outside its list is refused, naming field 2. -/
theorem exec_setWatch_badMode {p : Port} {s : State} {mode : Byte} (hs : s.ready p) (mask compare : Byte)
    (h : 2 < mode.toNat) :
    exec (.setWatch p mask compare mode) s = .next (State.answered p .badParam [2] s) := by
  have refused : orderSetWatch p mask compare mode s = Answer.badParam s 2 := by
    unfold orderSetWatch
    simp only [watchModeOf_eq_none h]
  rw [exec_setWatch_ready hs, refused]
  rfl

/-- A mode of the list sets the watch with no capture and no events, and is reported with its match state. -/
theorem exec_setWatch_of_mode {p : Port} {s : State} {mask compare mode : Byte} {m : WatchMode} (hs : s.ready p)
    (h : watchModeOf mode (Watch.inMatch ⟨.off, mask, compare, none, 0⟩ s.lm.active) = some m) :
    exec (.setWatch p mask compare mode) s = .next (State.answered p .ok (s.lm.active :: matchField m)
      { s with lm.watch := s.lm.watch.set p ⟨m, mask, compare, none, 0⟩ }) := by
  have taken : orderSetWatch p mask compare mode s =
      ⟨{ s with lm.watch := s.lm.watch.set p ⟨m, mask, compare, none, 0⟩ }, .ok, s.lm.active :: matchField m⟩ := by
    unfold orderSetWatch
    simp only [h]
    rfl
  rw [exec_setWatch_ready hs, taken]

/-- Settles O26: the reply of LINE_STATE by the watch's mode and capture, SET_WATCH by its mode, and the level bytes bit by bit. -/
theorem lineWatches : Obligations.LineWatches := by
  unfold Obligations.LineWatches
  refine ⟨fun p s hs => ⟨fun w hw => ?lineState, fun mask compare mode => ⟨?bad, ?off, ?change, ?matching⟩⟩,
    Lm.active_getLsbD, fun l k => ?functions⟩
  case lineState =>
    rw [exec_lineState_ready hs, orderLineState_of_watch hw]
    obtain ⟨mode, mask, compare, capture, count⟩ := w
    rcases mode with _ | (_ | _) | _ <;> cases capture <;> rfl
  case bad => exact exec_setWatch_badMode hs mask compare
  case off => rintro rfl; exact exec_setWatch_of_mode hs rfl
  case change => rintro rfl; exact exec_setWatch_of_mode hs rfl
  case matching =>
    rintro rfl
    exact ⟨_, Watch.inMatch_iff ⟨.off, mask, compare, none, 0⟩ s.lm.active, exec_setWatch_of_mode hs rfl⟩
  case functions =>
    rw [FnLevels.code_getLsbD]
    match k with
    | 0 | 1 | 2 | 3 | _ + 4 => rfl

end Sys2Proof.Machine
end

section
/-! The Load Queue's orders on a link port: COLLECT_LOAD and RELEASE_LOAD (6.5), and the lengths of the load records. -/

namespace Sys2Proof.Machine

open Sys2Proof

/-! ### Lengths of the load records (Table 11-4) -/

@[simp] theorem length_u8 (n : Nat) : (u8 n).length = 1 := rfl

@[simp] theorem length_u16 (n : Nat) : (u16 n).length = 2 := rfl

@[simp] theorem length_u32 (n : Nat) : (u32 n).length = 4 := rfl

@[simp] theorem length_i32 (x : Int) : (i32 x).length = 4 := rfl

/-- An optional field has one length, present or absent (R180): its presence byte and its width. -/
theorem length_optField {α : Type} {w : Nat} {enc : α → List Byte} (h : ∀ x, (enc x).length = w) (o : Option α) :
    (optField w enc o).length = 1 + w := by
  cases o with
  | none => simp [optField, Nat.add_comm]
  | some x => simp [optField, h, Nat.add_comm]

@[simp] theorem PassEntry.length_bytes (e : PassEntry) : e.bytes.length = 11 := by
  simp [PassEntry.bytes, length_optField length_i32]

theorem Load.length_bytes (l : Load) : l.bytes.length = 20 + 11 * l.passes.length := by
  simp [Load.bytes, length_optField length_u16, length_optField length_u32]; omega

theorem ClosedLoad.length_bytes (c : ClosedLoad) : c.bytes.length = 22 + 11 * c.load.passes.length := by
  simp [ClosedLoad.bytes, Load.length_bytes]; omega

/-! ### COLLECT_LOAD (R124) -/

theorem orderCollectLoad_nil {s : State} (h : s.lq.queue = []) : orderCollectLoad s = ⟨s, .empty, []⟩ := by
  unfold orderCollectLoad; simp only [h]; rfl

theorem orderCollectLoad_cons {s : State} {c : ClosedLoad} {rest : List ClosedLoad} (h : s.lq.queue = c :: rest) :
    orderCollectLoad s = ⟨s, .ok, BitVec.ofNat 8 s.lq.queue.length :: c.bytes⟩ := by
  unfold orderCollectLoad; simp only [h]; rfl

theorem exec_collectLoad_ready {p : Port} {s : State} (hs : s.ready p) :
    exec (.collectLoad p) s = .next ((orderCollectLoad s).state.answered p (orderCollectLoad s).result
      (orderCollectLoad s).reply) :=
  live_takeOrder_ready hs orderCollectLoad

/-! ### RELEASE_LOAD (R125) -/

theorem releaseReply_cons (c : ClosedLoad) (rest : List ClosedLoad) :
    releaseReply (c :: rest) = BitVec.ofNat 8 (c :: rest).length :: 1 :: u16 c.load.number := rfl

theorem orderReleaseLoad_zero (s : State) : orderReleaseLoad 0 s = ⟨s, .badParam, [0]⟩ := rfl

section
variable {n : BitVec 16} {s : State} {c : ClosedLoad} {rest : List ClosedLoad}

theorem orderReleaseLoad_nil (hn : n ≠ 0) (hq : s.lq.queue = []) :
    orderReleaseLoad n s = ⟨s, .empty, [0, 0, 0, 0]⟩ := by
  have nonzero : n.toNat ≠ 0 := BitVec.toNat_ne.1 hn
  unfold orderReleaseLoad
  rw [if_neg nonzero]
  simp only [hq]
  rfl

/-- A number other than 0 on a queue that holds a record: only the oldest is removed. -/
theorem orderReleaseLoad_cons (hn : n ≠ 0) (hq : s.lq.queue = c :: rest) :
    orderReleaseLoad n s =
      if n.toNat = c.load.number then ⟨{ s with lq.queue := rest }, .ok, releaseReply rest⟩
      else ⟨s, if ∃ d ∈ rest, d.load.number = n.toNat then .notOldest else .stale,
        BitVec.ofNat 8 s.lq.queue.length :: 1 :: u16 c.load.number⟩ := by
  have nonzero : n.toNat ≠ 0 := BitVec.toNat_ne.1 hn
  unfold orderReleaseLoad
  rw [if_neg nonzero]
  simp only [hq, releaseReply_cons, List.any_eq_true, beq_iff_eq, eq_comm (a := c.load.number)]
  split_ifs <;> rfl

end

theorem exec_releaseLoad_ready {p : Port} {s : State} (hs : s.ready p) (n : BitVec 16) :
    exec (.releaseLoad p n) s = .next ((orderReleaseLoad n s).state.answered p (orderReleaseLoad n s).result
      (orderReleaseLoad n s).reply) :=
  live_takeOrder_ready hs (orderReleaseLoad n)

/-- Settles O50: an empty queue, number 0, and a queue with an oldest record, each by its order's equation on a ready port. -/
theorem queueOrders : Obligations.QueueOrders := by
  unfold Obligations.QueueOrders
  intro p n s hs
  rw [exec_collectLoad_ready hs, exec_releaseLoad_ready hs]
  refine ⟨fun hq => ⟨?collectEmpty, fun hn => ?releaseEmpty⟩, ?badParam, fun c rest hq =>
    ⟨?collect, c.length_bytes, fun hn oldest => ?oldest, fun hn other queued => ?notOldest, fun hn other absent => ?stale⟩⟩
  case collectEmpty => rw [orderCollectLoad_nil hq]
  case releaseEmpty => rw [orderReleaseLoad_nil hn hq]
  case badParam => rintro rfl; rw [orderReleaseLoad_zero]
  case collect => rw [orderCollectLoad_cons hq]
  case oldest =>
    rw [orderReleaseLoad_cons hn hq, if_pos oldest]
    cases rest <;> rfl
  case notOldest => rw [orderReleaseLoad_cons hn hq, if_neg other, if_pos queued]
  case stale =>
    have unqueued : ¬ ∃ d ∈ rest, d.load.number = n.toNat := fun ⟨d, hd, same⟩ => absent d hd same
    rw [orderReleaseLoad_cons hn hq, if_neg other, if_neg unqueued]

end Sys2Proof.Machine
end

section
/-! The strip orders on a link port: OPEN_WINDOW and SET_STRIP (8.8, 8.5), and the codes that they check. -/

namespace Sys2Proof.Machine

open Sys2Proof

/-! ### Field checks (R179) -/

@[simp] theorem firstFailing_nil : firstFailing [] = none := rfl

theorem firstFailing_cons (passes : Bool) (rest : List Bool) :
    firstFailing (passes :: rest) = if passes then (firstFailing rest).map (· + 1) else some 0 := by
  cases passes <;> simp [firstFailing, List.findIdx?_cons]

theorem natInRange_eq_not_decide (lo hi n : Nat) : natInRange lo hi n = !decide (n < lo ∨ hi < n) := by
  simp [natInRange, ← decide_not]

/-! ### OPEN_WINDOW (R151) -/

theorem directionOf_eq (c : Byte) :
    directionOf c = if 1 < c.toNat then none else some (if c = 0 then .rowFirst else .columnFirst) := by
  unfold directionOf
  split
  next h => rw [BitVec.eq_of_toNat_eq (y := 0) h]; rfl
  next h => rw [BitVec.eq_of_toNat_eq (y := 1) h]; rfl
  next notRowFirst notColumnFirst =>
    have nonzero : c.toNat ≠ 0 := notRowFirst
    have notOne : c.toNat ≠ 1 := notColumnFirst
    rw [if_pos (by omega)]

/-- OPEN_WINDOW's checks, field by field. -/
theorem windowFirstBad_eq (f : WindowWire) :
    windowFirstBad f =
      if 19 < f.cs.toNat then some 0
      else if f.ce.toNat < f.cs.toNat ∨ 19 < f.ce.toNat then some 1
      else if 1 < f.rs.toNat then some 2
      else if f.re.toNat < f.rs.toNat ∨ 1 < f.re.toNat then some 3
      else if 1 < f.direction.toNat then some 4
      else none := by
  have direction : (directionOf f.direction).isSome = !decide (1 < f.direction.toNat) := by
    rw [directionOf_eq]; split_ifs with h <;> simp [h]
  simp only [windowFirstBad, firstFailing_cons, firstFailing_nil, natInRange_eq_not_decide, direction, Nat.not_lt_zero,
    false_or, Bool.not_eq_true', decide_eq_false_iff_not, ite_not, apply_ite (Option.map _), Option.map_some, Option.map_none]

theorem counter_windowOfWire (f : WindowWire) : (windowOfWire f).counter = [f.cs, f.rs] := by
  simp [Window.counter, windowOfWire, u8]

theorem orderOpenWindow_of_bad {f : WindowWire} {i : Nat} (h : windowFirstBad f = some i) (p : Port) (s : State) :
    orderOpenWindow p f s = Answer.badParam s i := by
  unfold orderOpenWindow; rw [h]

theorem orderOpenWindow_of_good {f : WindowWire} (h : windowFirstBad f = none) (p : Port) (s : State) :
    orderOpenWindow p f s =
      ⟨{ s with sd.windows := s.sd.windows.set p (some (windowOfWire f)) }, .ok, [f.cs, f.rs]⟩ := by
  unfold orderOpenWindow; rw [h, ← counter_windowOfWire]

theorem exec_openWindow_ready {p : Port} {s : State} (hs : s.ready p) (f : WindowWire) :
    exec (.openWindow p f) s = .next ((orderOpenWindow p f s).state.answered p (orderOpenWindow p f s).result
      (orderOpenWindow p f s).reply) :=
  live_takeOrder_ready hs (orderOpenWindow p f)

theorem exec_openWindow_bad {p : Port} {s : State} {f : WindowWire} {i : Nat} (hs : s.ready p)
    (h : windowFirstBad f = some i) :
    exec (.openWindow p f) s = .next (s.answered p .badParam (u8 i)) := by
  rw [exec_openWindow_ready hs, orderOpenWindow_of_bad h]; rfl

theorem exec_openWindow_good {p : Port} {s : State} {f : WindowWire} (hs : s.ready p) (h : windowFirstBad f = none) :
    exec (.openWindow p f) s = .next (State.answered p .ok [f.cs, f.rs]
      { s with sd.windows := s.sd.windows.set p (some (windowOfWire f)) }) := by
  rw [exec_openWindow_ready hs, orderOpenWindow_of_good h]

/-! ### SET_STRIP (R145) -/

theorem exec_setStrip_ready {p : Port} {s : State} (hs : s.ready p) (o : Byte) :
    exec (.setStrip p o) s = .next ((orderSetStrip o s).state.answered p (orderSetStrip o s).result
      (orderSetStrip o s).reply) :=
  live_takeOrder_ready hs (orderSetStrip o)

theorem dimOverrideOf_eq_none {c : Byte} (auto : c ≠ 0) (on : c ≠ 1) (off : c ≠ 2) : dimOverrideOf c = none := by
  unfold dimOverrideOf
  split
  next h => exact absurd (BitVec.eq_of_toNat_eq h) auto
  next h => exact absurd (BitVec.eq_of_toNat_eq h) on
  next h => exact absurd (BitVec.eq_of_toNat_eq h) off
  next => rfl

/-- A code of the dim override sets it, and is reported with the dim state that follows. -/
theorem exec_setStrip_of_code {p : Port} {s : State} {o : Byte} {d : DimOverride} (hs : s.ready p)
    (h : dimOverrideOf o = some d) :
    exec (.setStrip p o) s = .next (State.answered p .ok [d.code, bit8 { s.sd with dim := d }.isDim]
      { s with sd.dim := d }) := by
  have taken : orderSetStrip o s = ⟨{ s with sd.dim := d }, .ok, [d.code, bit8 { s.sd with dim := d }.isDim]⟩ := by
    unfold orderSetStrip; rw [h]
  rw [exec_setStrip_ready hs, taken]

theorem exec_setStrip_of_none {p : Port} {s : State} {o : Byte} (hs : s.ready p) (h : dimOverrideOf o = none) :
    exec (.setStrip p o) s = .next (State.answered p .badParam [0] s) := by
  have refused : orderSetStrip o s = Answer.badParam s 0 := by unfold orderSetStrip; rw [h]
  rw [exec_setStrip_ready hs, refused]
  rfl

/-- Settles O32: OPEN_WINDOW by the first failing field and SET_STRIP by the code of its override, on a ready port. -/
theorem stripOrders : Obligations.StripOrders := by
  unfold Obligations.StripOrders
  refine fun p s hs => ⟨fun f => ?openWindow, fun o => ?setStrip⟩
  case openWindow =>
    have firstBad := windowFirstBad_eq f
    split_ifs at firstBad ⊢ with cs ce rs re direction rowFirst
    · exact exec_openWindow_bad hs firstBad
    · exact exec_openWindow_bad hs firstBad
    · exact exec_openWindow_bad hs firstBad
    · exact exec_openWindow_bad hs firstBad
    · exact exec_openWindow_bad hs firstBad
    · rw [exec_openWindow_good hs firstBad, windowOfWire, directionOf_eq, if_neg direction, if_pos rowFirst]; rfl
    · rw [exec_openWindow_good hs firstBad, windowOfWire, directionOf_eq, if_neg direction, if_neg rowFirst]; rfl
  case setStrip =>
    split_ifs with auto lights on off
    · subst auto; rw [exec_setStrip_of_code hs (d := .auto) rfl]; simp [Sd.isDim, bit8, DimOverride.code, lights]
    · subst auto; rw [exec_setStrip_of_code hs (d := .auto) rfl]; simp [Sd.isDim, bit8, DimOverride.code, lights]
    · subst on; exact exec_setStrip_of_code hs (d := .on) rfl
    · subst off; exact exec_setStrip_of_code hs (d := .off) rfl
    · exact exec_setStrip_of_none hs (dimOverrideOf_eq_none auto on off)

end Sys2Proof.Machine
end

section
/-! The bits of a strip frame (Table 8-3): its header byte, its bargraph and its lamps, and the widths of the fields between. -/

namespace Sys2Proof.Machine

open Sys2Proof

/-! ### Bytes sent most significant bit first -/

theorem byteMsbFirst_eq_byteOfFlags (bs : List Bool) : byteMsbFirst bs = byteOfFlags bs.reverse := by
  simp [byteMsbFirst, byteOfFlags]

theorem byteMsbFirst_getLsbD {bs : List Bool} (h : bs.length ≤ 8) (k : Nat) :
    (byteMsbFirst bs).getLsbD k = bs.reverse.getD k false := by
  rw [byteMsbFirst_eq_byteOfFlags, byteOfFlags_getLsbD (by simpa using h)]

/-- Flag `k` of eight is bit `7 - k`, counted from the least significant. -/
theorem byteMsbFirst_getLsbD_sub {bs : List Bool} (h : bs.length = 8) {k : Nat} (hk : k < 8) :
    (byteMsbFirst bs).getLsbD (7 - k) = bs.getD k false := by
  rw [byteMsbFirst_getLsbD h.le, List.getD_reverse _ (by omega), h]
  congr 1; omega

/-- A bit of the run of bytes that a list of flags is packed into is the flag at its position. -/
theorem bitOfBytes_packed {flags : List Bool} {n : Nat} (h : flags.length = 8 * n) {j : Nat} (hj : j < 8 * n) :
    bitOfBytes ((List.range n).map fun k => byteMsbFirst ((flags.drop (8 * k)).take 8)) j = flags.getD j false := by
  have byteIndex : j / 8 < n := by omega
  have bitIndex : j % 8 < 8 := Nat.mod_lt _ (by decide)
  have whole : ((flags.drop (8 * (j / 8))).take 8).length = 8 := by simp; omega
  have position : 8 * (j / 8) + j % 8 = j := Nat.div_add_mod j 8
  rw [bitOfBytes, List.getD_eq_getElem _ _ (by simpa using byteIndex), List.getElem_map, List.getElem_range,
    byteMsbFirst_getLsbD_sub whole bitIndex]
  simp [List.getD_eq_getElem?_getD, List.getElem?_take_of_lt bitIndex, position]

theorem bitOfBytes_cons (b : Byte) (bs : List Byte) (j : Nat) : bitOfBytes (b :: bs) (8 + j) = bitOfBytes bs j := by
  have byteIndex : (8 + j) / 8 = j / 8 + 1 := by omega
  simp [bitOfBytes, byteIndex]

theorem bitOfBytes_append_left {as : List Byte} {j : Nat} (h : j < 8 * as.length) (bs : List Byte) :
    bitOfBytes (as ++ bs) j = bitOfBytes as j := by
  rw [bitOfBytes, bitOfBytes, List.getD_append _ _ _ _ (by omega)]

/-! ### Widths of the numeric fields (R139, R140) -/

theorem length_padLeft {w : Nat} {t : List Byte} (h : t.length ≤ w) : (padLeft w t).length = w := by
  simp [padLeft]; omega

theorem length_decimal_le_fuel (fuel n : Nat) : (decimal fuel n).length ≤ fuel := by
  induction fuel generalizing n with
  | zero => simp [decimal]
  | succ f ih =>
    unfold decimal
    split
    · simp
    · simpa using ih (n / 10)

/-- A number below `10 ^ (k + 1)` has at most `k + 1` digits. -/
theorem length_decimal_le_of_lt_pow (fuel : Nat) {n k : Nat} (h : n < 10 ^ (k + 1)) : (decimal fuel n).length ≤ k + 1 := by
  induction fuel generalizing n k with
  | zero => simp [decimal]
  | succ f ih =>
    unfold decimal
    split
    next => simp
    next twoDigits =>
      cases k with
      | zero => omega
      | succ k => simpa using ih (n := n / 10) (k := k) (by rw [pow_succ] at h; omega)

theorem clampInt_bounds {lo hi : Int} (h : lo ≤ hi) (x : Int) : lo ≤ clampInt lo hi x ∧ clampInt lo hi x ≤ hi := by
  unfold clampInt; split_ifs <;> omega

@[simp] theorem length_massField (kg : Int) : (massField kg).length = 6 := by
  obtain ⟨lower, upper⟩ := clampInt_bounds (lo := -9999) (hi := 99999) (by decide) (roundDiv kg 100)
  unfold massField
  generalize clampInt (-9999) 99999 (roundDiv kg 100) = v at *
  refine length_padLeft ?_
  by_cases negative : v < 0
  · have digits : (decimal 5 (v.natAbs / 10)).length ≤ 3 := length_decimal_le_of_lt_pow 5 (by omega)
    simp [negative]; omega
  · have digits : (decimal 5 (v.natAbs / 10)).length ≤ 4 := length_decimal_le_of_lt_pow 5 (by omega)
    simp [negative]; omega

@[simp] theorem length_fieldF1 (s : State) : s.fieldF1.length = 6 := by
  unfold State.fieldF1
  split
  next m _ _ => cases m with
    | none => rfl
    | some kg => exact length_massField kg
  next => rfl

@[simp] theorem length_fieldF2 (s : State) : s.fieldF2.length = 6 := length_massField _

@[simp] theorem length_fieldF3 (s : State) : s.fieldF3.length = 6 := by
  unfold State.fieldF3
  split
  next r _ => exact length_massField r
  next => rfl

@[simp] theorem length_passCountField (s : State) : s.passCountField.length = 2 :=
  length_padLeft (length_decimal_le_fuel 2 _)

@[simp] theorem length_barBytes (s : State) : s.barBytes.length = 5 := by simp [State.barBytes]

/-! ### Where the frame holds its bits (Table 8-3) -/

theorem stripFrame_getD_header (s : State) : s.stripFrame.getD 0 0 = s.headerByte := by
  simp [State.stripFrame]

theorem stripFrame_getD_lamps (s : State) : s.stripFrame.getD 26 0 = s.lampByte := by
  simp [State.stripFrame, List.getElem?_append]

theorem bitOfBytes_stripFrame_bar (s : State) {j : Nat} (h : j < 40) :
    bitOfBytes s.stripFrame (8 + j) = bitOfBytes s.barBytes j := by
  have parts : s.stripFrame = s.headerByte :: (s.barBytes ++ (s.fieldF1 ++ s.fieldF2 ++ s.fieldF3 ++ s.passCountField
      ++ [s.lampByte] ++ s.messageLine)) := by
    simp [State.stripFrame]
  rw [parts, bitOfBytes_cons, bitOfBytes_append_left (by simpa using h)]

/-! ### The bargraph (R141, R142) -/

/-- The logical segment at 0-based position `j` is `j + 1`, or `40 - j` with MIRROR. -/
theorem bitOfBytes_barBytes (s : State) {j : Nat} (h : j < 40) :
    bitOfBytes s.barBytes j = decide ((if s.sd.settings.mirror then 40 - j else j + 1) ≤ s.litSegments) := by
  unfold State.barBytes
  dsimp only
  rw [bitOfBytes_packed (by split_ifs <;> simp [segments]) h]
  split_ifs with mirror
  · rw [List.getD_reverse _ (by simpa [segments] using h), List.getD_eq_getElem _ _ (by simp [segments]; omega)]
    simp [segments]; omega
  · rw [List.getD_eq_getElem _ _ (by simpa [segments] using h)]
    simp

/-! ### The number of lit segments (R116, R141) -/

theorem litSegments_loadProgress {s : State} {t : Nat} (mode : s.lt.settings.barMode = .loadProgress)
    (target : s.lt.load.target = some t) : s.litSegments = min 40 (s.lt.load.total * 30 / t) := by
  simp [State.litSegments, mode, target, segments]

/-- Without the load's progress to show, the bargraph is the fill of the pass shown. -/
theorem litSegments_of_fill {s : State} (h : s.lt.settings.barMode = .passFill ∨ s.lt.load.target = none) :
    s.litSegments = s.shownFill.elim 0 fun fill => min 40 (fill * 20 / 100) := by
  unfold State.litSegments
  split
  next mode target => simp [mode, target] at h
  next => cases s.shownFill <;> rfl

theorem shownFill_of_shownPass {s : State} {m : Option Int} {f : PassFlags} (h : s.shownPass = some (m, f)) :
    s.shownFill = if f.uncal then none else some (fillPercent (creditedMass m) s.capacity) := by
  simp [State.shownFill, h]

theorem shownFill_of_none {s : State} (h : s.shownPass = none) : s.shownFill = none := by
  simp [State.shownFill, h]

/-! ### The header byte and the lamps (R143 to R145) -/

theorem headerByte_getLsbD (s : State) (k : Nat) :
    s.headerByte.getLsbD k =
      [false, false, false, false, s.sd.settings.mirror, s.markShown, s.sd.blink, s.sd.isDim].getD k false :=
  byteMsbFirst_getLsbD (by simp) k

/-- The lamp in logical order `k` is the `k`-th bit sent, and with MIRROR the `k`-th from the last. -/
theorem lampByte_getLsbD (s : State) {k : Nat} (hk : k < 8) :
    s.lampByte.getLsbD (if s.sd.settings.mirror then k else 7 - k) = s.lamps.getD k false := by
  have eight : s.lamps.length = 8 := rfl
  unfold State.lampByte
  split_ifs with mirror
  · rw [byteMsbFirst_getLsbD (by simp [eight]), List.reverse_reverse]
  · exact byteMsbFirst_getLsbD_sub eight hk

/-- Settles O30: the bits of the bargraph's, the header's and the lamps' bytes, and the cases of the number of lit segments. -/
theorem stripFrameBits : Obligations.StripFrameBits := by
  unfold Obligations.StripFrameBits
  refine ⟨fun s => ⟨fun i one forty => ?bar, fun t mode target => litSegments_loadProgress mode target,
    fun h m f shown => ?fill, fun h shown => ?empty⟩, fun s => ⟨fun k hk => ?header, fun k hk => ?lamps⟩⟩
  case bar =>
    obtain ⟨j, rfl⟩ : ∃ j, i = j + 1 := ⟨i - 1, by omega⟩
    have position : 7 + (j + 1) = 8 + j := by omega
    have mirrored : 41 - (j + 1) = 40 - j := by omega
    rw [position, mirrored, bitOfBytes_stripFrame_bar s forty, bitOfBytes_barBytes s forty]
  case fill =>
    rw [litSegments_of_fill h, shownFill_of_shownPass shown]
    cases f.uncal <;> rfl
  case empty => rw [litSegments_of_fill h, shownFill_of_none shown]; rfl
  case header =>
    rw [stripFrame_getD_header, headerByte_getLsbD]
    interval_cases k <;> rfl
  case lamps =>
    rw [stripFrame_getD_lamps, lampByte_getLsbD s hk]
    match k, hk with
    | 2, _ => cases h : s.lt.held <;> simp [State.lamps, h]
    | 3, _ => simp [State.lamps, bne, Bool.beq_eq_decide_eq]
    | 6, _ => cases h : s.shownPass <;> simp [State.lamps, h, bne, Bool.beq_eq_decide_eq]
    | 0, _ | 1, _ | 4, _ | 5, _ | 7, _ => rfl

end Sys2Proof.Machine
end

section
/-! The notice orders on a link port: TOP_NOTICE, CLEAR_NOTICES, ENABLE_NOTICES and READ_NOTICES (9.4). -/

namespace Sys2Proof.Machine

open Sys2Proof

/-! ### The kinds both pending and enabled, and ATN (R167, R168) -/

/-- No kind is both pending and enabled exactly when the two sets have no bit in common. -/
theorem noticeSets_disjoint_iff (pending enable : BitVec 16) :
    pending &&& enable = 0 ↔ ∀ j < 16, pending.getLsbD j = false ∨ enable.getLsbD j = false := by
  simp only [BitVec.eq_of_getLsbD_eq_iff, BitVec.getLsbD_and, BitVec.ofNat_eq_ofNat, BitVec.getLsbD_zero,
    Bool.and_eq_false_iff]

theorem State.atn_eq_false_iff (p : Port) (s : State) :
    s.atn p = false ↔
      ∀ j < 16, (s.ex.pending.get p).getLsbD j = false ∨ (s.ex.enable.get p).getLsbD j = false := by
  rw [← noticeSets_disjoint_iff, State.atn, bne_eq_false_iff_eq]

theorem State.atn_eq_true_iff (p : Port) (s : State) :
    s.atn p = true ↔ ∃ j < 16, (s.ex.pending.get p).getLsbD j = true ∧ (s.ex.enable.get p).getLsbD j = true := by
  rw [← Bool.not_eq_false, State.atn_eq_false_iff]
  simp

theorem bit8_atn (p : Port) (s : State) :
    bit8 (s.atn p) = if s.ex.pending.get p &&& s.ex.enable.get p = 0 then 0 else 1 := by
  by_cases disjoint : s.ex.pending.get p &&& s.ex.enable.get p = 0 <;> simp [State.atn, bit8, disjoint]

/-! ### TOP_NOTICE (R167) -/

theorem topKind_zero : topKind 0 = noKind := by decide

/-- The kind on top is the lowest bit set. -/
theorem topKind_of_lowest {set : BitVec 16} {k : Nat} (inRange : k < 16) (isSet : set.getLsbD k = true)
    (lowest : ∀ j < k, set.getLsbD j = false) : topKind set = BitVec.ofNat 8 k := by
  have found : (List.range 16).find? (fun j => set.getLsbD j) = some k :=
    List.find?_range_eq_some.2 ⟨isSet, List.mem_range.2 inRange, fun j below => by simp [lowest j below]⟩
  simp only [topKind, found]

theorem exec_topNotice_ready {p : Port} {s : State} (hs : s.ready p) :
    exec (.topNotice p) s =
      .next (State.answered p .ok [topKind (s.ex.pending.get p &&& s.ex.enable.get p)] s) :=
  live_takeOrder_ready hs (orderTopNotice p)

/-! ### CLEAR_NOTICES and ENABLE_NOTICES (R165, R166) -/

theorem exec_clearNotices_ready {p : Port} {s : State} (hs : s.ready p) (mask : BitVec 16) :
    exec (.clearNotices p mask) s = .next (State.answered p .ok (bytes16 (s.ex.pending.get p &&& ~~~mask))
      { s with ex.pending := s.ex.pending.set p (s.ex.pending.get p &&& ~~~mask) }) :=
  live_takeOrder_ready hs (orderClearNotices p mask)

theorem orderEnableNotices_eq (p : Port) (enables : BitVec 16) (s : State) :
    orderEnableNotices p enables s =
      ⟨{ s with ex.enable := s.ex.enable.set p enables }, .ok,
        bytes16 enables ++ [if s.ex.pending.get p &&& enables = 0 then 0 else 1]⟩ := by
  simp [orderEnableNotices, bit8_atn]

theorem exec_enableNotices_ready {p : Port} {s : State} (hs : s.ready p) (enables : BitVec 16) :
    exec (.enableNotices p enables) s = .next (State.answered p .ok
      (bytes16 enables ++ [if s.ex.pending.get p &&& enables = 0 then 0 else 1])
      { s with ex.enable := s.ex.enable.set p enables }) := by
  have taken := live_takeOrder_ready hs (orderEnableNotices p enables)
  rwa [orderEnableNotices_eq] at taken

/-! ### READ_NOTICES (R166) -/

theorem slotBytes_some (m : Message) :
    slotBytes (some m) = [if m.acked then 3 else 1, BitVec.ofNat 8 m.bytes.length] := by
  cases acked : m.acked <;> simp [slotBytes, acked, u8, byteOfFlags, bitsToNat]

theorem exec_readNotices_ready {p : Port} {s : State} (hs : s.ready p) :
    exec (.readNotices p) s = .next (State.answered p .ok
      (bytes16 (s.ex.pending.get p) ++ bytes16 (s.ex.enable.get p)
        ++ [Port.a, Port.b].flatMap (fun q => slotBytes (s.ex.slots.get q)) ++ [portCode s.ex.hold]) s) := by
  have slots : [Port.a, Port.b].flatMap (fun q => slotBytes (s.ex.slots.get q)) =
      slotBytes s.ex.slots.a ++ slotBytes s.ex.slots.b := by simp [PerPort.get]
  rw [slots, ← List.append_assoc]
  exact live_takeOrder_ready hs (orderReadNotices p)

/-- Settles O55: each order's equation on a ready port, with the lowest common bit of the two sets as the kind on top. -/
theorem noticeOrders : Obligations.NoticeOrders := by
  unfold Obligations.NoticeOrders
  intro p set s hs
  refine ⟨fun k inRange pending enabled lowest => ?topKind, fun apart => ⟨?noKind, (State.atn_eq_false_iff p s).2 apart⟩,
    (State.atn_eq_true_iff p s).2, exec_clearNotices_ready hs set, exec_enableNotices_ready hs set, ?readNotices⟩
  case topKind =>
    rw [exec_topNotice_ready hs, topKind_of_lowest inRange]
    · simp [pending, enabled]
    · intro j below
      rw [BitVec.getLsbD_and]
      exact Bool.and_eq_false_iff.2 (lowest j below)
  case noKind => rw [exec_topNotice_ready hs, (noticeSets_disjoint_iff _ _).2 apart, topKind_zero]; rfl
  case readNotices =>
    rw [exec_readNotices_ready hs]
    congr 2
    refine congrArg₂ (· ++ ·) (congrArg₂ (· ++ ·) rfl (List.flatMap_congr fun q _ => ?slot))
      (congrArg (fun b => [b]) ?hold)
    case slot =>
      cases s.ex.slots.get q with
      | none => rfl
      | some m => exact slotBytes_some m
    case hold =>
      match s.ex.hold with
      | none | some .a | some .b => rfl

end Sys2Proof.Machine
end

section
/-! The effect of each shared operation, block by block, as one update of the state: what it writes, and with what. -/

namespace Sys2Proof.Machine

open Sys2Proof

/-! ### Notices and advisories (R148, R149, R164) -/

/-- EX after a notice of kind `k` is raised to both ports. -/
def Ex.raisedBoth (k : Notice) (x : Ex) : Ex :=
  { x with pending := ⟨x.pending.a ||| k.mask, x.pending.b ||| k.mask⟩ }

theorem State.raiseBoth_eq (k : Notice) (s : State) : s.raiseBoth k = { s with ex := s.ex.raisedBoth k } := rfl

@[simp] theorem Ex.raisedBoth_pending (k : Notice) (x : Ex) (p : Port) :
    (x.raisedBoth k).pending.get p = x.pending.get p ||| k.mask := by
  cases p <;> rfl

/-- A raised notice is pending. -/
theorem Notice.getLsbD_or_mask (k : Notice) (v : BitVec 16) : (v ||| k.mask).getLsbD k.priority = true := by
  have own : k.mask.getLsbD k.priority = true := by cases k <;> decide
  simp [own]

/-- What was pending stays pending when more is raised. -/
theorem getLsbD_or_of_left {w : Nat} {v : BitVec w} {n : Nat} (h : v.getLsbD n = true) (u : BitVec w) :
    (v ||| u).getLsbD n = true := by
  simp [h]

theorem Ex.raisedBoth_isPending (k : Notice) (x : Ex) (p : Port) :
    ((x.raisedBoth k).pending.get p).getLsbD k.priority = true := by
  rw [Ex.raisedBoth_pending]; exact k.getLsbD_or_mask _

theorem Ex.raisedBoth_keepsPending (k : Notice) {x : Ex} {p : Port} {n : Nat} (h : (x.pending.get p).getLsbD n = true) :
    ((x.raisedBoth k).pending.get p).getLsbD n = true := by
  rw [Ex.raisedBoth_pending]; exact getLsbD_or_of_left h _

/-- SD after an advisory is queued: in an empty queue it shows at once, and fixes its hold time. -/
def Sd.advised (x : Advisory) (d : Sd) : Sd :=
  { d with
    advisories := withAdvisory x d.advisories
    holdTimer := if d.advisories = [] then .started else d.holdTimer
    holdTime := if d.advisories = [] then d.settings.advisoryHold else d.holdTime }

theorem State.queueAdvisory_eq (x : Advisory) (s : State) : s.queueAdvisory x = { s with sd := s.sd.advised x } := by
  unfold State.queueAdvisory Sd.advised withAdvisory
  split
  next empty => simp [empty]
  next nonempty =>
    have shown : s.sd.advisories ≠ [] := nonempty
    split <;> simp [List.dropLast_eq_take, *]

theorem length_withAdvisory_le (x : Advisory) (q : List Advisory) : (withAdvisory x q).length ≤ max 4 q.length := by
  unfold withAdvisory; split_ifs <;> simp <;> omega

theorem withAdvisory_ne_nil (x : Advisory) (q : List Advisory) : withAdvisory x q ≠ [] := by
  unfold withAdvisory; split_ifs <;> simp

/-! ### The trace at the end of a window (R15) -/

/-- The mode of the trace once the window has ended. -/
def TraceMode.ended (m : TraceMode) : TraceMode := if m = .lift .recording then .lift .done else m

theorem State.endTrace_eq (s : State) : s.endTrace = { s with sp.trace.mode := s.sp.trace.mode.ended } := by
  unfold State.endTrace TraceMode.ended
  split
  next recording => simp [recording]
  next other => rw [if_neg other]

/-! ### Calibrations (R80, R91 to R93) -/

/-- CU after a running calibration is abandoned. -/
def Cu.abandoned (c : CalCause) (u : Cu) : Cu :=
  { u with
    cal := .idle, scratchTare := none, scratchLoaded := none, scratchMref := none, outcome := some (abandonOutcome c) }

theorem State.calFail_eq (o : CalOutcome) (s : State) :
    s.calFail o =
      { s with cu.outcome := some o, ex := s.ex.raisedBoth .calFailed, sd := s.sd.advised .calFailed } := by
  unfold State.calFail; rw [State.queueAdvisory_eq]; rfl

theorem State.calDone_eq (o : CalOutcome) (s : State) :
    s.calDone o =
      { s with cu.outcome := some o, ex := s.ex.raisedBoth .calDone, sd := s.sd.advised .calDone } := by
  unfold State.calDone; rw [State.queueAdvisory_eq]; rfl

theorem State.abandonCal_idle {s : State} (h : s.cu.cal = .idle) (c : CalCause) : s.abandonCal c = s := if_pos h

theorem State.abandonCal_running {s : State} (h : s.cu.cal ≠ .idle) (c : CalCause) :
    s.abandonCal c =
      { s with cu := s.cu.abandoned c, ex := s.ex.raisedBoth .calFailed, sd := s.sd.advised .calFailed } := by
  unfold State.abandonCal; rw [if_neg h, State.calFail_eq]; rfl

/-- The table after a change of geometry (R93). -/
def TableState.staled (t : TableState) : TableState := if t = .valid then .stale else t

theorem State.geometryChange_eq (s : State) :
    s.geometryChange = State.abandonCal .settings { s with cu.table := s.cu.table.staled } := by
  unfold State.geometryChange TableState.staled
  split_ifs <;> rfl

theorem State.geometryChange_idle {s : State} (h : s.cu.cal = .idle) :
    s.geometryChange = { s with cu.table := s.cu.table.staled } := by
  rw [State.geometryChange_eq]; exact State.abandonCal_idle (s := { s with cu.table := s.cu.table.staled }) h _

theorem State.geometryChange_running {s : State} (h : s.cu.cal ≠ .idle) :
    s.geometryChange =
      { s with
        cu := { s.cu with table := s.cu.table.staled }.abandoned .settings, ex := s.ex.raisedBoth .calFailed
        sd := s.sd.advised .calFailed } := by
  rw [State.geometryChange_eq, State.abandonCal_running (s := { s with cu.table := s.cu.table.staled }) h]

/-! ### WEIGH records (R75) -/

theorem State.applyWeigh_same {s : State} {r : WeighRec} (h : s.we.weigh.sameGeometry r = true) :
    s.applyWeigh r = { s with we.weigh := r, we.pendingWeigh := none } := by
  unfold State.applyWeigh; rw [if_pos h]

theorem State.applyWeigh_other {s : State} {r : WeighRec} (h : s.we.weigh.sameGeometry r = false) :
    s.applyWeigh r = State.geometryChange { s with we.weigh := r, we.pendingWeigh := none } := by
  unfold State.applyWeigh; rw [if_neg (by simp [h])]

theorem WeighRec.sameGeometry_iff (r t : WeighRec) :
    r.sameGeometry t = true ↔
      t.nCyl = r.nCyl ∧ t.aHead = r.aHead ∧ t.aRod = r.aRod ∧ t.thetaStart = r.thetaStart ∧ t.thetaEnd = r.thetaEnd := by
  simp only [WeighRec.sameGeometry, Bool.and_eq_true, beq_iff_eq, and_assoc, eq_comm (a := r.nCyl), eq_comm (a := r.aHead),
    eq_comm (a := r.aRod), eq_comm (a := r.thetaStart), eq_comm (a := r.thetaEnd)]

theorem WeighRec.sameGeometry_self (r : WeighRec) : r.sameGeometry r = true := by
  simp [WeighRec.sameGeometry_iff]

/-- Applying the pending record, or none, is applying the record that is then in force. -/
theorem State.applyPendingWeigh_eq (s : State) :
    s.applyPendingWeigh = s.applyWeigh (s.we.pendingWeigh.getD s.we.weigh) := by
  unfold State.applyPendingWeigh
  split
  next none =>
    rw [none, Option.getD_none, State.applyWeigh_same (WeighRec.sameGeometry_self _), ← none]
  next r some => rw [some, Option.getD_some]

/-! ### LOW entry (R49) -/

theorem State.lowEntry_eq (s : State) :
    s.lowEntry = State.applyWeigh (s.we.pendingWeigh.getD s.we.weigh) { s with ct := s.ct.lowEntered } := by
  have cycles : State.applyPendingCycle { s with ct.tracker := .low, ct.belowStart := false, ct.dwellTimer := .stopped } =
      { s with ct := s.ct.lowEntered } := by
    unfold State.applyPendingCycle Ct.lowEntered
    split
    next none =>
      have absent : s.ct.pendingCycle = Option.none := none
      simp [absent]
    next r some =>
      have present : s.ct.pendingCycle = Option.some r := some
      simp [present]
  unfold State.lowEntry
  rw [cycles, State.applyPendingWeigh_eq]

/-! ### Weigh aborts (R40) -/

theorem State.abortWeigh_eq (c : AbortCause) (s : State) :
    s.abortWeigh c =
      { s with
        ct.windowTimer := .stopped, ct.highTheta := none, ct.belowStart := false, ct.abortCause := some c
        we := s.we.discardWindow, cu.cal := s.cu.cal.abortWindow
        lq.counters.aborts := min 65535 (s.lq.counters.aborts + 1), ex := s.ex.raisedBoth .weighAbort
        sd := if c.advised = true then s.sd.advised .weighAborted else s.sd } := by
  unfold State.abortWeigh
  dsimp only
  split
  · rw [State.queueAdvisory_eq]; rfl
  · rfl

theorem CalState.abortWindow_eq (c : CalState) : c.abortWindow = c.armedAgain := by cases c <;> rfl

theorem State.abortIfWeighing_weighing {s : State} (h : s.ct.tracker = .weighing) (c : AbortCause) :
    s.abortIfWeighing c =
      { s.abortWeigh c with sp.trace.mode := s.sp.trace.mode.ended } := by
  unfold State.abortIfWeighing
  rw [if_pos h, State.endTrace_eq, State.abortWeigh_eq]

theorem State.abortIfWeighing_other {s : State} (h : s.ct.tracker ≠ .weighing) (c : AbortCause) :
    s.abortIfWeighing c = s := if_neg h

/-! ### The held pass (R97 to R99) -/

/-- The held pass once `x` is handed to LT: a pass already held makes it a re-weigh. -/
def Pass.over (x : Pass) (old : Option Pass) : Pass :=
  match old with
  | none => x
  | some o =>
    { x with flags := { x.flags with reweighed := true, tipped := false }, reweighs := min 15 (o.reweighs + 1) }

theorem State.acceptPass_eq (x : Pass) (s : State) : s.acceptPass x = { s with lt.held := some (x.over s.lt.held) } := by
  unfold State.acceptPass Pass.over
  cases s.lt.held <;> rfl

/-! ### Closing a load (R108, R109, R122, R123, R131) -/

/-- LT once the next load is open. -/
def Lt.nextLoad (l : Lt) : Lt :=
  { l with
    load :=
      { number := l.nextNumber, passes := [], total := 0, state := .empty, duration := 0
        truck := l.nextTruck.bind fun a => a.truck
        material := (l.nextTruck.map fun a => a.material).getD l.load.material
        target := match l.nextTruck with
          | some a => a.target
          | none => l.load.target
        source := l.nextTruck.bind fun a => a.target.map fun _ => a.source }
    durationTimer := .stopped, nextNumber := nextLoadNumber l.nextNumber, nextTruck := none }

theorem State.openNextLoad_eq (s : State) : s.openNextLoad = { s with lt := s.lt.nextLoad } := by
  unfold State.openNextLoad Lt.nextLoad
  dsimp only
  cases s.lt.nextTruck with
  | none => rfl
  | some a => cases target : a.target <;> simp [target]

/-- LQ once a record is appended: a full queue first drops its oldest. -/
def Lq.appended (c : ClosedLoad) (q : Lq) : Lq :=
  { q with
    queue := (if q.queue.length < 32 then q.queue else q.queue.tail) ++ [c]
    counters.dropped := if q.queue.length < 32 then q.counters.dropped else min 255 (q.counters.dropped + 1) }

/-- LQ once a load of `total` kg is counted. -/
def Lq.counted (total : Nat) (q : Lq) : Lq :=
  { q with
    counters := { q.counters with
      loadsClosed := min 65535 (q.counters.loadsClosed + 1), tonnes := min 4294967295 (q.counters.tonnes + total) } }

theorem State.countClose_eq (total : Nat) (s : State) : s.countClose total = { s with lq := s.lq.counted total } := rfl

/-- EX once a record is handed to a queue of `n` records. -/
def Ex.dropped (n : Nat) (x : Ex) : Ex := if n < 32 then x else x.raisedBoth .loadDropped

theorem State.enqueue_eq (c : ClosedLoad) (s : State) :
    s.enqueue c = { s with lq := s.lq.appended c, ex := s.ex.dropped s.lq.queue.length } := by
  unfold State.enqueue Lq.appended Ex.dropped
  by_cases room : s.lq.queue.length < 32
  · rw [if_pos (show s.lq.queue.length < queueCapacity from room)]; simp only [if_pos room]
  · rw [if_neg (show ¬ s.lq.queue.length < queueCapacity from room)]; simp only [if_neg room]; rfl

/-- EX once a load is closed into a queue of `n` records. -/
def Ex.loadClosed (n : Nat) (x : Ex) : Ex := (x.dropped n).raisedBoth .loadClosed

theorem State.closeLoad_eq (c : CloseCause) (s : State) :
    s.closeLoad c =
      { s with
        lt := s.lt.nextLoad, lq := (s.lq.counted s.lt.load.total).appended (closedRecord c s.lt.load)
        ex := s.ex.loadClosed s.lq.queue.length, sd := s.sd.advised (.loadClosed s.lt.load.number) } := by
  unfold State.closeLoad
  rw [State.openNextLoad_eq, State.queueAdvisory_eq, State.raiseBoth_eq, State.enqueue_eq, State.countClose_eq]
  rfl

theorem Ex.loadClosed_isPending (n : Nat) (x : Ex) (p : Port) :
    ((x.loadClosed n).pending.get p).getLsbD 5 = true := Ex.raisedBoth_isPending .loadClosed _ p

theorem Ex.loadClosed_isDropped {n : Nat} (h : 32 ≤ n) (x : Ex) (p : Port) :
    ((x.loadClosed n).pending.get p).getLsbD 4 = true := by
  unfold Ex.loadClosed Ex.dropped
  rw [if_neg (by omega)]
  exact Ex.raisedBoth_keepsPending _ (Ex.raisedBoth_isPending .loadDropped x p)

end Sys2Proof.Machine
end

section
/-! What it takes for a property of states to be kept by every command, for the properties that look at SP for its sampling state
only, and at LM and SD not at all: `BlockKept` lists it, and `BlockKept.kept` draws the conclusion. -/

namespace Sys2Proof.Machine

open Sys2Proof

/-! ### What the filter and a window sample write (R52, R55) -/

theorem We.filterForce_frame (n : Nat) (x : Option Int) (w : We) :
    ∃ h f, w.filterForce n x = { w with history := h, latestF := f } := by
  unfold We.filterForce; split <;> exact ⟨_, _, rfl⟩

theorem We.windowSample_frame (x : Sample) (w : We) :
    ∃ g c n p m, w.windowSample x = { w with gross := g, counts := c, samples := n, pitchSum := p, marks := m } := by
  have binned : ∀ v : We, ∃ g c, v.binSample x = { v with gross := g, counts := c } := fun v => by
    unfold We.binSample We.accumulate
    split
    · split <;> exact ⟨_, _, rfl⟩
    · exact ⟨_, _, rfl⟩
  have pitched : ∀ v : We, ∃ n p, v.addPitch x.psi = { v with samples := n, pitchSum := p } := fun v => by
    unfold We.addPitch; split <;> exact ⟨_, _, rfl⟩
  unfold We.windowSample
  generalize WinMarks.take _ _ _ _ _ = m
  obtain ⟨n, p, pitch⟩ := pitched { w with marks := m }
  obtain ⟨g, c, bin⟩ := binned { w with marks := m, samples := n, pitchSum := p }
  exact ⟨g, c, n, p, m, by rw [pitch, bin]⟩

/-- WE takes a sample into its filter and its sums, and writes nothing else (R52, R55). -/
theorem State.weighSample_sums (n : Nat) (x : Sample) (s : State) :
    ∃ h f g c k p m, s.weighSample n x =
      { s with
        we.history := h, we.latestF := f, we.gross := g, we.counts := c, we.samples := k, we.pitchSum := p
        we.marks := m } := by
  obtain ⟨h, f, filtered⟩ := We.filterForce_frame n x.fRaw s.we
  unfold State.weighSample
  rw [filtered]
  split
  · obtain ⟨g, c, k, p, m, taken⟩ := We.windowSample_frame x { s.we with history := h, latestF := f }
    refine ⟨h, f, g, c, k, p, m, ?_⟩
    dsimp only
    rw [taken]
  · exact ⟨h, f, _, _, _, _, _, rfl⟩

/-! ### A frame keeps what the judgement of its sample and the filter keep -/

/-- What SP notes of a set, it writes to itself and to the notices, and sampling goes on. -/
theorem State.noteSet_sampling (x : SampleSet) (s : State) :
    ∃ p e, s.noteSet x = { s with sp := p, ex.pending := e } ∧ p.sampling = s.sp.sampling := by
  obtain ⟨f, n, e, noted⟩ := State.judgeFaults_frame x.anyFault
    { s with sp := ((s.sp.takeSeq x.seq).takeTheta x.channels.theta).takeTiltPitch x.channels.phi x.channels.psi }
  refine ⟨_, e, noted, ?_⟩
  cases h : x.channels.theta <;> rfl

/-- A property that looks at SP for its sampling state only, and at no notice, is kept by a frame if the judgement of a sample and the
filter keep it. -/
theorem State.receiveFrame_keeps {P : State → Prop} {s : State} (h : P s)
    (port : ∀ (t : State) p e, p.sampling = t.sp.sampling → P t → P { t with sp := p, ex.pending := e })
    (judge : ∀ (t : State) theta phi, P t → P (t.judgeSample theta phi))
    (filter : ∀ (t : State) n x, P t → P (t.weighSample n x)) (bits : List Bool) : P (s.receiveFrame bits) := by
  have note : ∀ x, P (s.noteSet x) := fun x => by
    obtain ⟨p, e, noted, same⟩ := State.noteSet_sampling x s
    rw [noted]; exact port s p e same h
  unfold State.receiveFrame
  split
  · exact h
  · split
    · exact port s _ s.ex.pending rfl h
    next x _ =>
      have passed : P (s.passOn x) := by
        unfold State.passOn
        split
        · exact filter _ _ _ (judge _ _ _ (port _ _ (s.noteSet x).ex.pending rfl (note x)))
        · exact note x
      unfold State.receiveSet
      obtain ⟨tr, e, recorded⟩ := State.recordSet_frame s.ct.tracker (s.entryOf x (s.passOn x).ct.tracker) (s.passOn x)
      dsimp only
      rw [recorded]
      exact port _ _ e rfl passed

/-! ### The level functions and the line updates keep what their parts keep (R18, R22, R23, R25) -/

theorem State.handLevels_keeps {P : State → Prop} {s : State} (h : P s)
    (levels : ∀ (t : State) l, P t → P { t with lm.levels := l })
    (park : ∀ (t : State) b, P t → P (t.parkChange b))
    (dumpSwitch : ∀ (t : State) a b, P t → P (t.dumpSwitchChange a b))
    (lights : ∀ (t : State) b, P t → P { t with sd.lights := b }) : P s.handLevels := by
  have kept := levels s s.lm.computedLevels h
  have parked : P (if s.lm.computedLevels.park = s.lm.levels.park then { s with lm.levels := s.lm.computedLevels }
      else State.parkChange s.lm.computedLevels.park { s with lm.levels := s.lm.computedLevels }) := by
    split
    · exact kept
    · exact park _ _ kept
  unfold State.handLevels
  dsimp only
  generalize (if s.lm.computedLevels.park = s.lm.levels.park then _ else _ : State) = t at parked ⊢
  have switched : P (if s.lm.computedLevels.dumpSwitch = s.lm.levels.dumpSwitch
      ∧ s.lm.computedLevels.dumpConfigured = s.lm.levels.dumpConfigured then t
      else t.dumpSwitchChange s.lm.computedLevels.dumpSwitch s.lm.computedLevels.dumpConfigured) := by
    split
    · exact parked
    · exact dumpSwitch _ _ _ parked
  split
  · exact switched
  · exact lights _ _ switched

theorem State.takeEvents_keeps {P : State → Prop} (event : ∀ (t : State) e, P t → P (t.takeEvent e))
    (choice : ∀ (t : State) n, P t → P { t with choices := n }) (k : Nat) :
    ∀ (es : List LineEvent) {s : State}, P s → P (s.takeEvents k es) := by
  induction k with
  | zero => intro es s h; exact h
  | succ k ih =>
    intro es s h
    match es with
    | [] => exact h
    | [e] => exact event s e h
    | e :: f :: rest => exact ih _ (event _ _ (choice s _ h))

theorem State.evaluateWatches_keeps {P : State → Prop} {s : State} (h : P s)
    (watches : ∀ (t : State) w e, P t → P { t with lm.watch := w, ex.pending := e }) (before after : BitVec 8) :
    P (s.evaluateWatches before after) := by
  obtain ⟨w, e, evaluated⟩ := State.evaluateWatches_frame before after s
  rw [evaluated]; exact watches s w e h

/-! ### The properties that SP, LM and SD play no part in -/

/-- `P` looks at SP for its sampling state only, at LM, SD, the ports, the slots and the notices not at all, and every event and
every order on the other blocks keeps it. -/
structure BlockKept (P : State → Prop) : Prop where
  port : ∀ s p, p.sampling = s.sp.sampling → P s → P { s with sp := p }
  lines : ∀ s m, P s → P { s with lm := m }
  strip : ∀ s d, P s → P { s with sd := d }
  links : ∀ s q r n, P s → P { s with ports := q, pending := r, choices := n }
  mail : ∀ s a b c d e, P s →
    P { s with ex.slots := a, ex.storeOrder := b, ex.deposits := c, ex.pending := d, ex.enable := e }
  counters : ∀ s c t n m, P s →
    P { s with lq.counters := c, lq.shiftTimer := t, lq.shiftNo := n, lq.lastSummary := m }
  held : ∀ s b, P s → P { s with held := b }
  nextTruck : ∀ s x, P s → P { s with lt.nextTruck := x }
  materials : ∀ s m, P s → P { s with lt.materials := m }
  idleTimer : ∀ s p, P s → P { s with ex.holdTimer := if s.ex.hold = some p then .started else s.ex.holdTimer }
  reset : P State.reset
  timers : ∀ s, P s → P s.tickTimers
  judge : ∀ s theta phi, P s → P (s.judgeSample theta phi)
  filter : ∀ s h f g c k p m, P s →
    P { s with
      we.history := h, we.latestF := f, we.gross := g, we.counts := c, we.samples := k, we.pitchSum := p, we.marks := m }
  loss : ∀ s, P s → P s.trackerLoss
  park : ∀ s b, P s → P (s.parkChange b)
  dumpSwitch : ∀ s a b, P s → P (s.dumpSwitchChange a b)
  event : ∀ s e, P s → P (s.takeEvent e)
  timeout : ∀ s, P s → P s.windowTimeout
  dwell : ∀ s, P s → P s.dwellExpiry
  lapse : ∀ s, P s → P s.loseHold
  loadSecond : ∀ s, P s → P s.loadSecond
  run : ∀ s, P s → P (orderRun s).state
  stop : ∀ s, P s → P (orderStop s).state
  setTarget : ∀ s p w, P s → P (orderSetTarget p w s).state
  close : ∀ s c, s.lt.load.passes.isEmpty = false → P s → P (s.closeLoad c)
  releaseLoad : ∀ s n, P s → P (orderReleaseLoad n s).state
  writeWeigh : ∀ s p w, P s → P (orderWriteWeigh p w s).state
  writeCycle : ∀ s p w, P s → P (orderWriteCycle p w s).state
  writeLoad : ∀ s w, P s → P (orderWriteLoad w s).state
  takeHold : ∀ s p, P s → P (orderTakeHold p s).state
  calTare : ∀ s p, P s → P (orderCalTare p s).state
  calLoaded : ∀ s p m, P s → P (orderCalLoaded p m s).state
  calZero : ∀ s p, P s → P (orderCalZero p s).state
  calAbort : ∀ s p, P s → P (orderCalAbort p s).state
  writeTable : ∀ s p w, P s → P (orderWriteTable p w s).state

section

variable {P : State → Prop}

theorem BlockKept.notices (k : BlockKept P) {s : State} (d : PerPort (BitVec 16)) (h : P s) :
    P { s with ex.pending := d } := k.mail s s.ex.slots s.ex.storeOrder s.ex.deposits d s.ex.enable h

theorem BlockKept.raiseBoth (k : BlockKept P) {s : State} (n : Notice) (h : P s) : P (s.raiseBoth n) :=
  k.mail s s.ex.slots s.ex.storeOrder s.ex.deposits (s.ex.raisedBoth n).pending s.ex.enable h

theorem BlockKept.handLevels (k : BlockKept P) {s : State} (h : P s) : P s.handLevels :=
  State.handLevels_keeps h (fun t _ h => k.lines t _ h) k.park k.dumpSwitch (fun t _ h => k.strip t _ h)

theorem BlockKept.evaluateWatches (k : BlockKept P) {s : State} (h : P s) (before after : BitVec 8) :
    P (s.evaluateWatches before after) :=
  State.evaluateWatches_keeps h (fun t w e h => k.lines _ { t.lm with watch := w } (k.notices e h)) before after

theorem BlockKept.deviceReset (k : BlockKept P) (s : State) : P s.deviceReset :=
  k.held _ true (k.counters _ State.reset.lq.counters .stopped State.reset.lq.shiftNo State.reset.lq.lastSummary
    (k.strip _ { State.reset.sd with refreshTimer := .stopped, blinkTimer := .stopped }
      (k.links State.reset ⟨{ Lp.reset with selected := s.ports.a.selected }, { Lp.reset with selected := s.ports.b.selected }⟩
        s.pending s.choices k.reset)))

theorem BlockKept.resetRelease (k : BlockKept P) {s : State} (h : P s) : P s.resetRelease := by
  unfold State.resetRelease
  split
  · exact k.held _ false (k.counters _ s.lq.counters (.counting 0) s.lq.shiftNo s.lq.lastSummary
      (k.strip s { s.sd with refreshTimer := .counting 0, blinkTimer := .counting 0 } h))
  · exact h

theorem BlockKept.sampleLoss (k : BlockKept P) {s : State} (h : P s) : P s.sampleLoss := by
  unfold State.sampleLoss
  split
  · exact k.loss _ (k.raiseBoth .sensorFault (k.port s _ (by rfl) h))
  · exact h

theorem BlockKept.lineTick (k : BlockKept P) {s : State} (raw : BitVec 8) (h : P s) : P (s.lineTick raw) := by
  have ticked := k.timers s h
  unfold State.lineTick
  dsimp only
  split
  · exact k.lines _ _ ticked
  · exact k.handLevels (k.lines _ _ ticked)

theorem BlockKept.lineUpdate (k : BlockKept P) {s : State} (h : P s) : P s.lineUpdate := by
  unfold State.lineUpdate
  dsimp only
  split
  · exact k.evaluateWatches (State.takeEvents_keeps k.event (fun t n h => k.links t t.ports t.pending n h) _ _
      (k.handLevels (k.lines s _ h))) _ _
  · exact k.lines s _ h

theorem BlockKept.writeLines (k : BlockKept P) {s : State} (w : LinesWire) (h : P s) : P (orderWriteLines w s).state := by
  have handed := k.handLevels (k.lines s { s.lm with settings := linesOfWire w } h)
  unfold orderWriteLines
  split
  · exact h
  · show P (s.applyLines (linesOfWire w))
    unfold State.applyLines
    dsimp only
    split
    · exact handed
    · exact k.evaluateWatches handed _ _

theorem BlockKept.writeSample (k : BlockKept P) {s : State} (r : Byte) (h : P s) : P (orderWriteSample r s).state := by
  unfold orderWriteSample
  split
  · exact h
  next rate _ =>
    refine k.port s _ ?_ h
    dsimp only
    split
    · unfold Sp.startPacing; split <;> rfl
    · rfl

theorem BlockKept.shiftEnd (k : BlockKept P) {s : State} (h : P s) : P (orderShiftEnd s).state := by
  have closed : P s.shiftClose := by
    unfold State.shiftClose
    split
    · exact h
    next pass => exact k.close s .shift (Bool.eq_false_of_not_eq_true pass) h
  exact k.counters _ _ _ _ _ closed

theorem BlockKept.linkReset (k : BlockKept P) {s : State} (p : Port) (h : P s) : P (orderLinkReset p s).state := by
  have unlinked : P (s.setPort p { s.ports.get p with order := none, ended := false }) :=
    k.links s _ s.pending s.choices h
  have released : P ((s.setPort p { s.ports.get p with order := none, ended := false }).resetHold p) := by
    unfold State.resetHold
    split
    · exact k.lapse _ unlinked
    · exact unlinked
  have cancelled : P (((s.setPort p { s.ports.get p with order := none, ended := false }).resetHold p).resetTrace p) := by
    unfold State.resetTrace
    split
    · exact k.port _ _ (by rfl) released
    · exact released
  exact k.links _ _ _ _ (k.notices _ (k.lines _ _ (k.strip _ _ cancelled)))

/-- Every command keeps such a property. -/
theorem BlockKept.kept (k : BlockKept P) : Kept P where
  ports s q h := k.links s q s.pending s.choices h
  mail s a b c d h := k.mail s a b c d s.ex.enable h
  notices s d e h := k.mail s s.ex.slots s.ex.storeOrder s.ex.deposits d e h
  idleTimer := k.idleTimer
  queue s q h := k.links s s.ports q s.choices h
  reset := k.deviceReset
  release _ := k.resetRelease
  frame s bits h := State.receiveFrame_keeps h (fun t p e same h => k.notices e (k.port t p same h)) k.judge
    (fun t n x h => by
      obtain ⟨_, _, _, _, _, _, _, e⟩ := State.weighSample_sums n x t
      rw [e]; exact k.filter _ _ _ _ _ _ _ _ h) bits
  pulse s h := by
    obtain ⟨_, _, _, e⟩ := State.pacePulse_frame s
    rw [e]; exact k.port s _ (by rfl) h
  loss _ := k.sampleLoss
  tick _ := k.lineTick
  update _ := k.lineUpdate
  timeout := k.timeout
  dwell := k.dwell
  lapse s h := by
    unfold State.holdLapse
    split
    · exact h
    · split
      · exact k.lapse _ (k.notices _ h)
      · exact h
  strip s _ _ _ _ h := k.strip s _ h
  blink s _ _ h := k.strip s _ h
  advisory s h := by
    obtain ⟨_, _, _, e⟩ := State.advisoryExpiry_frame s
    rw [e]; exact k.strip s _ h
  loadSecond := k.loadSecond
  shiftSecond s h := by
    obtain ⟨_, _, e⟩ := State.shiftSecond_frame s
    rw [e]; exact k.counters s _ _ s.lq.shiftNo s.lq.lastSummary h
  run := k.run
  stop := k.stop
  setTarget := k.setTarget
  setNext := k.nextTruck
  closeLoad s h := by
    unfold orderCloseLoad
    split
    · exact h
    next pass => exact k.close s .order (Bool.eq_false_of_not_eq_true pass) h
  releaseLoad := k.releaseLoad
  shiftEnd _ := k.shiftEnd
  writeSample _ := k.writeSample
  writeWeigh := k.writeWeigh
  writeCycle := k.writeCycle
  writeLoad := k.writeLoad
  writeLines _ := k.writeLines
  writeStrip s _ h := k.strip s _ h
  writeMaterial := k.materials
  takeHold := k.takeHold
  dropHold s p h := by
    unfold orderDropHold
    split
    · exact k.lapse s h
    · exact h
  calTare := k.calTare
  calLoaded := k.calLoaded
  calZero := k.calZero
  calAbort := k.calAbort
  writeTable := k.writeTable
  watch s _ h := k.lines s _ h
  traceArm s p m h := by
    obtain ⟨_, e⟩ := orderTraceArm_frame p m s
    rw [e]; exact k.port s _ (by rfl) h
  traceRead s p n h := by
    obtain ⟨_, e⟩ := orderTraceRead_frame p n s
    rw [e]; exact k.port s _ (by rfl) h
  openWindow s p w h := by
    obtain ⟨_, e⟩ := orderOpenWindow_frame p w s
    rw [e]; exact k.strip s _ h
  putText s p cs h := by
    obtain ⟨_, _, e⟩ := orderPutText_frame p cs s
    rw [e]; exact k.strip s _ h
  setStrip s _ h := k.strip s _ h
  linkReset _ := k.linkReset

end

end Sys2Proof.Machine
end

section
/-! Every step keeps the records: the thresholds in their order (3.1.1, R50, R73, R76), and the calibration table and the scratch
table as R78 and R80 say they are. -/

namespace Sys2Proof.Machine

open Sys2Proof

/-! ### The thresholds: what leaves the four records as they are -/

/-- The records in force and pending. -/
def State.records (s : State) : WeighRec × Option WeighRec × CycleRec × Option CycleRec :=
  (s.we.weigh, s.we.pendingWeigh, s.ct.cycle, s.ct.pendingCycle)

theorem State.thresholdsSound_of_records {s t : State} (h : t.records = s.records) (sound : s.thresholdsSound) :
    t.thresholdsSound := by
  simp only [State.records, Prod.mk.injEq] at h
  obtain ⟨weigh, pendingWeigh, cycle, pendingCycle⟩ := h
  unfold State.thresholdsSound at sound ⊢
  rwa [weigh, pendingWeigh, cycle, pendingCycle]

theorem State.records_abortWeigh (c : AbortCause) (s : State) : (s.abortWeigh c).records = s.records := by
  rw [State.abortWeigh_eq]; rfl

theorem State.records_abortIfWeighing (c : AbortCause) (s : State) : (s.abortIfWeighing c).records = s.records := by
  by_cases h : s.ct.tracker = .weighing
  · rw [State.abortIfWeighing_weighing h]; exact State.records_abortWeigh c s
  · rw [State.abortIfWeighing_other h]

theorem State.records_completeWindow (s : State) : s.completeWindow.records = s.records := by
  unfold State.completeWindow
  dsimp only
  split
  · exact State.records_abortWeigh _ s
  · split
    · rw [State.acceptPass_eq]; rfl
    · obtain ⟨_, _, _, _, _, e⟩ := State.tareResult_frame s.we.qualifying.length { s with we.windowOpen := false }
      rw [e]; rfl
    · obtain ⟨_, _, _, _, _, e⟩ := State.loadedResult_frame s.we.qualifying.length { s with we.windowOpen := false }
      rw [e]; rfl
    · obtain ⟨_, _, _, _, _, _, e⟩ := State.zeroResult_frame (correctedMass s.cu s.we) s.we.qualifying.length
        { s with we.windowOpen := false }
      rw [e]; rfl
    · rfl

theorem State.records_applyWeigh (r : WeighRec) (s : State) :
    (s.applyWeigh r).records = (r, none, s.ct.cycle, s.ct.pendingCycle) := by
  obtain ⟨_, _, _, _, _, e⟩ := State.applyWeigh_frame r s
  rw [e]; rfl

theorem State.records_dumpSwitchChange (l c : Bool) (s : State) : (s.dumpSwitchChange l c).records = s.records := by
  unfold State.dumpSwitchChange
  dsimp only
  split
  · split
    · rfl
    · rfl
    · unfold State.judgeDumping; split <;> rfl
    · rfl
  · rfl

theorem State.records_parkChange (l : Bool) (s : State) : (s.parkChange l).records = s.records := by
  unfold State.parkChange
  dsimp only
  split
  · exact State.records_abortIfWeighing .park { s with ct.park := l }
  · rfl

theorem State.records_dwellExpiry (s : State) : s.dwellExpiry.records = s.records := by
  unfold State.dwellExpiry State.dumpEntry
  split
  · split
    · dsimp only
      split
      · generalize hk : State.countCycle _ _ = k
        obtain ⟨_, _, _, _, _, _, _, _, _, _, _, e⟩ := State.credit_frame k
        rw [e]
        subst hk
        rfl
      · rfl
    · rfl
    · rfl
  · rfl

theorem State.records_trackerRun (s : State) : s.trackerRun.records = s.records := by
  unfold State.trackerRun; split <;> rfl

theorem State.records_orderRun (s : State) : (orderRun s).state.records = s.records := by
  obtain ⟨_, _, _, e⟩ := State.samplingRun_frame s
  show s.samplingRun.trackerRun.records = s.records
  rw [State.records_trackerRun, e]; rfl

theorem State.records_trackerStop (s : State) : s.trackerStop.records = s.records := by
  unfold State.trackerStop
  split
  · rfl
  · exact State.records_abortIfWeighing .stopped s

theorem State.records_orderStop (s : State) : (orderStop s).state.records = s.records := by
  obtain ⟨_, e⟩ := State.samplingStop_frame s.trackerStop
  show s.trackerStop.samplingStop.records = s.records
  rw [e]; exact State.records_trackerStop s

/-! ### LOW entry brings the pending records into force together (R49) -/

theorem State.thresholdsSound_lowEntry {s : State} (h : s.thresholdsSound) : s.lowEntry.thresholdsSound := by
  obtain ⟨active, pending, pendingCycle⟩ := h
  have weighFits : (s.we.pendingWeigh.getD s.we.weigh).fits s.ct.cycle := by
    cases e : s.we.pendingWeigh with
    | none => exact active
    | some w => exact pending w e
  have fits : (s.we.pendingWeigh.getD s.we.weigh).fits (s.ct.pendingCycle.getD s.ct.cycle) := by
    cases e : s.ct.pendingCycle with
    | none => exact weighFits
    | some c => exact pendingCycle c e
  rw [State.lowEntry_eq]
  have after := State.records_applyWeigh (s.we.pendingWeigh.getD s.we.weigh) { s with ct := s.ct.lowEntered }
  simp only [State.records, Prod.mk.injEq] at after
  obtain ⟨weigh, noWeigh, cycle, noCycle⟩ := after
  unfold State.thresholdsSound
  rw [weigh, noWeigh, cycle, noCycle]
  exact ⟨fits, by simp, by simp [Ct.lowEntered]⟩

theorem State.thresholdsSound_judgeSample {s : State} (theta phi : Int) (h : s.thresholdsSound) :
    (s.judgeSample theta phi).thresholdsSound := by
  have low := State.thresholdsSound_lowEntry h
  have up : (s.takeUpBoom theta).thresholdsSound := by
    unfold State.takeUpBoom
    split
    · exact low
    · exact h
  have carried : (s.judgeCarried theta phi).thresholdsSound := by
    unfold State.judgeCarried
    split
    · exact low
    · exact h
  unfold State.judgeSample
  split
  · exact h
  · exact up
  · split
    · exact h
    · exact up
  · unfold State.judgeLow
    split <;> exact h
  · unfold State.judgeLifting
    split_ifs
    · exact low
    · exact h
    · exact h
    · exact h
  · unfold State.judgeWeighing
    split_ifs
    · exact State.thresholdsSound_of_records (State.records_completeWindow _) h
    · exact State.thresholdsSound_of_records (s := s) (State.records_abortWeigh .lowered s) h
    · exact h
  · exact carried
  · exact carried
  · unfold State.judgeDumping
    split <;> exact h

/-! ### The two writes, whose checks are made against the records in force and pending (R50, R73) -/

theorem firstFailing_eq_none {checks : List Bool} : firstFailing checks = none ↔ ∀ c ∈ checks, c = true := by
  simp [firstFailing]

theorem WeighRec.fits_of_passes {r : WeighRec} {cs : List CycleRec} (h : weighFirstBad r cs = none) :
    ∀ c ∈ cs, r.fits c := by
  intro c hc
  simp only [weighFirstBad, firstFailing_eq_none, List.forall_mem_cons, Bool.and_eq_true, List.all_eq_true, decide_eq_true_eq] at h
  obtain ⟨-, -, -, ⟨-, low⟩, ⟨⟨-, span⟩, dump⟩, -⟩ := h
  exact ⟨low c hc, span, dump c hc⟩

theorem CycleRec.fits_of_passes {r : CycleRec} {w : WeighRec} (h : cycleFirstBad r w = none)
    (span : w.thetaStart + 80 ≤ w.thetaEnd) : w.fits r := by
  simp only [cycleFirstBad, firstFailing_eq_none, List.forall_mem_cons, Bool.and_eq_true, decide_eq_true_eq] at h
  obtain ⟨⟨-, low⟩, ⟨-, dump⟩, -⟩ := h
  exact ⟨low, span, dump⟩

theorem State.thresholdsSound_writeWeigh {s : State} (p : Port) (w : WeighWire) (h : s.thresholdsSound) :
    (orderWriteWeigh p w s).state.thresholdsSound := by
  obtain ⟨active, pending, pendingCycle⟩ := h
  unfold orderWriteWeigh
  split
  · exact ⟨active, pending, pendingCycle⟩
  · split
    · exact ⟨active, pending, pendingCycle⟩
    next passes =>
      have fits := WeighRec.fits_of_passes passes
      have cycle : (weighOfWire w).fits s.ct.cycle := fits _ (by simp)
      have next : ∀ c, s.ct.pendingCycle = some c → (weighOfWire w).fits c := fun c hc => fits c (by simp [hc])
      show (s.placeWeigh (weighOfWire w)).thresholdsSound
      unfold State.placeWeigh
      split
      · have after := State.records_applyWeigh (weighOfWire w) s
        simp only [State.records, Prod.mk.injEq] at after
        obtain ⟨ew, ep, ec, ed⟩ := after
        unfold State.thresholdsSound
        rw [ew, ep, ec, ed]
        exact ⟨cycle, by simp, next⟩
      · exact ⟨active, by rintro v ⟨⟩; exact cycle, next⟩

theorem State.thresholdsSound_writeCycle {s : State} (p : Port) (w : CycleWire) (h : s.thresholdsSound) :
    (orderWriteCycle p w s).state.thresholdsSound := by
  obtain ⟨active, pending, pendingCycle⟩ := h
  have span : (s.we.pendingWeigh.getD s.we.weigh).thetaStart + 80 ≤ (s.we.pendingWeigh.getD s.we.weigh).thetaEnd := by
    cases e : s.we.pendingWeigh with
    | none => exact active.2.1
    | some v => exact (pending v e).2.1
  unfold orderWriteCycle
  split
  · exact ⟨active, pending, pendingCycle⟩
  · split
    · exact ⟨active, pending, pendingCycle⟩
    next passes =>
      have fits := CycleRec.fits_of_passes passes span
      show (s.placeCycle (cycleOfWire w)).thresholdsSound
      unfold State.placeCycle
      split
      · rw [State.applyPendingWeigh_eq]
        have after := State.records_applyWeigh (s.we.pendingWeigh.getD s.we.weigh)
          { s with ct.cycle := cycleOfWire w, ct.pendingCycle := none }
        simp only [State.records, Prod.mk.injEq] at after
        obtain ⟨ew, ep, ec, ed⟩ := after
        unfold State.thresholdsSound
        rw [ew, ep, ec, ed]
        exact ⟨fits, by simp, by simp⟩
      · exact ⟨active, pending, by rintro c ⟨⟩; exact fits⟩

theorem thresholdsSound_reset : State.reset.thresholdsSound := by
  refine ⟨by unfold WeighRec.fits; decide, ?_, ?_⟩ <;> rintro _ ⟨⟩

/-- Every command keeps the thresholds in their order. -/
theorem thresholdsSound_kept : BlockKept State.thresholdsSound where
  port _ _ _ h := h
  lines _ _ h := h
  strip _ _ h := h
  links _ _ _ _ h := h
  mail _ _ _ _ _ _ h := h
  counters _ _ _ _ _ h := h
  held _ _ h := h
  nextTruck _ _ h := h
  materials _ _ h := h
  idleTimer _ _ h := h
  reset := thresholdsSound_reset
  timers _ h := h
  judge _ theta phi h := State.thresholdsSound_judgeSample theta phi h
  filter _ _ _ _ _ _ _ _ h := h
  loss s h := by
    unfold State.trackerLoss
    split
    · exact State.thresholdsSound_of_records (s := s) (State.records_abortIfWeighing .sensorLost s) h
    · exact h
  park s b h := State.thresholdsSound_of_records (State.records_parkChange b s) h
  dumpSwitch s a b h := State.thresholdsSound_of_records (State.records_dumpSwitchChange a b s) h
  event s e h := by obtain ⟨_, _, _, _, _, _, _, _, _, _, _, _, taken⟩ := State.takeEvent_frame e s; rw [taken]; exact h
  timeout s h := by
    unfold State.windowTimeout
    split
    · exact State.thresholdsSound_of_records (s := s) (State.records_abortIfWeighing .timeout s) h
    · exact h
  dwell s h := State.thresholdsSound_of_records (State.records_dwellExpiry s) h
  lapse s h := by obtain ⟨_, _, _, _, _, e⟩ := State.loseHold_frame s; rw [e]; exact h
  loadSecond s h := by obtain ⟨_, _, e⟩ := State.loadSecond_frame s; rw [e]; exact h
  run s h := State.thresholdsSound_of_records (State.records_orderRun s) h
  stop s h := State.thresholdsSound_of_records (State.records_orderStop s) h
  setTarget s p w h := by obtain ⟨_, _, _, _, _, e⟩ := orderSetTarget_frame p w s; rw [e]; exact h
  close s c _ h := by rw [State.closeLoad_eq]; exact h
  releaseLoad s n h := by obtain ⟨_, e⟩ := orderReleaseLoad_frame n s; rw [e]; exact h
  writeWeigh _ p w h := State.thresholdsSound_writeWeigh p w h
  writeCycle _ p w h := State.thresholdsSound_writeCycle p w h
  writeLoad s w h := by obtain ⟨_, _, e⟩ := orderWriteLoad_frame w s; rw [e]; exact h
  takeHold s p h := by obtain ⟨_, _, e⟩ := orderTakeHold_frame p s; rw [e]; exact h
  calTare s p h := by obtain ⟨_, _, _, _, e⟩ := orderCalTare_frame p s; rw [e]; exact h
  calLoaded s p m h := by obtain ⟨_, e⟩ := orderCalLoaded_frame p m s; rw [e]; exact h
  calZero s p h := by obtain ⟨_, _, _, _, _, _, e⟩ := orderCalZero_frame p s; rw [e]; exact h
  calAbort s p h := by obtain ⟨_, _, _, _, _, e⟩ := orderCalAbort_frame p s; rw [e]; exact h
  writeTable s p w h := by obtain ⟨_, e⟩ := orderWriteTable_frame p w s; rw [e]; exact h

/-! ### The calibration table and the scratch table (R78, R80): what each event of CU makes of them -/

/-- The table and the scratch table of CU agree with their states. -/
def Cu.sound (u : Cu) : Prop := u.tableSound ∧ u.scratchSound

/-- A calibration that ends leaves the scratch table empty, whatever it was. -/
theorem Cu.sound_ended {u : Cu} (h : u.tableSound) (o : Option CalOutcome) :
    Cu.sound
      { u with cal := .idle, scratchTare := none, scratchLoaded := none, scratchMref := none, outcome := o } :=
  ⟨h, rfl, rfl, rfl⟩

theorem Cu.tableSound_staled {u : Cu} (h : u.tableSound) : Cu.tableSound { u with table := u.table.staled } := by
  cases table : u.table <;> simp only [Cu.tableSound, table, TableState.staled] at h ⊢
  · exact h
  · exact ⟨h.1, h.2.1⟩
  · exact h

theorem Cu.sound_abortWindow {u : Cu} (h : u.sound) : Cu.sound { u with cal := u.cal.abortWindow } := by
  refine ⟨h.1, ?_⟩
  have scratch := h.2
  cases cal : u.cal <;> simpa only [Cu.scratchSound, cal, CalState.abortWindow] using scratch

theorem Cu.sound_enterWindow {u : Cu} (h : u.sound) : Cu.sound { u with cal := u.cal.enterWindow } := by
  refine ⟨h.1, ?_⟩
  have scratch := h.2
  cases cal : u.cal <;> simpa only [Cu.scratchSound, cal, CalState.enterWindow] using scratch

theorem State.calSound_abandonCal {s : State} (c : CalCause) (h : s.cu.sound) : (s.abandonCal c).cu.sound := by
  by_cases idle : s.cu.cal = .idle
  · rwa [State.abandonCal_idle idle]
  · rw [State.abandonCal_running idle]; exact Cu.sound_ended h.1 _

theorem State.calSound_applyWeigh {s : State} (r : WeighRec) (h : s.cu.sound) : (s.applyWeigh r).cu.sound := by
  cases same : s.we.weigh.sameGeometry r
  · rw [State.applyWeigh_other same, State.geometryChange_eq]
    exact State.calSound_abandonCal (s := { s with
      we.weigh := r, we.pendingWeigh := none, cu.table := s.cu.table.staled }) .settings ⟨Cu.tableSound_staled h.1, h.2⟩
  · rw [State.applyWeigh_same same]; exact h

theorem State.calSound_lowEntry {s : State} (h : s.cu.sound) : s.lowEntry.cu.sound := by
  rw [State.lowEntry_eq]; exact State.calSound_applyWeigh (s := { s with ct := s.ct.lowEntered }) _ h

theorem State.calSound_abortWeigh {s : State} (c : AbortCause) (h : s.cu.sound) : (s.abortWeigh c).cu.sound := by
  rw [State.abortWeigh_eq]; exact Cu.sound_abortWindow h

theorem State.calSound_abortIfWeighing {s : State} (c : AbortCause) (h : s.cu.sound) : (s.abortIfWeighing c).cu.sound := by
  by_cases weighing : s.ct.tracker = .weighing
  · rw [State.abortIfWeighing_weighing weighing]; exact State.calSound_abortWeigh c h
  · rwa [State.abortIfWeighing_other weighing]

/-! ### The results of the calibration lifts (R85 to R90) -/

theorem State.calSound_tareResult {s : State} (q : Nat) (h : s.cu.sound) (lift : s.cu.cal = .tareLift) :
    (s.tareResult q).cu.sound := by
  have scratch := h.2
  simp only [Cu.scratchSound, lift] at scratch
  obtain ⟨noLoaded, -, noMref⟩ := scratch
  unfold State.tareResult
  dsimp only
  split
  · rw [State.calFail_eq]; exact Cu.sound_ended h.1 _
  · split
    · rw [State.calFail_eq]; exact ⟨h.1, noLoaded, rfl, noMref⟩
    · rw [State.queueAdvisory_eq]; exact ⟨h.1, noLoaded, rfl, noMref⟩

/-- Where no bin is short, every span is at least 10,000 (R87). -/
theorem span_of_firstShortSpan_eq_none {t l : Eight Int} (h : firstShortSpan t l = none) (b : Fin 8) :
    10000 ≤ l.get b - t.get b := by
  have every := List.find?_eq_none.1 h b (by fin_cases b <;> simp [eightIndices])
  exact not_lt.1 (of_decide_eq_false (Bool.eq_false_of_not_eq_true every))

theorem State.calSound_loadedResult {s : State} (q : Nat) (h : s.cu.sound) (lift : s.cu.cal = .loadedLift) :
    (s.loadedResult q).cu.sound := by
  have scratch := h.2
  simp only [Cu.scratchSound, lift] at scratch
  obtain ⟨noLoaded, tare, mref⟩ := scratch
  unfold State.loadedResult
  dsimp only
  split
  · rw [State.calFail_eq]; exact ⟨h.1, noLoaded, tare, rfl⟩
  · split
    · rw [State.calFail_eq]; exact ⟨h.1, noLoaded, tare, mref⟩
    · split
      · rw [State.calFail_eq]; exact ⟨h.1, rfl, tare, rfl⟩
      next spans =>
        unfold State.commitTable
        rw [State.calDone_eq]
        exact ⟨⟨mref, rfl, span_of_firstShortSpan_eq_none spans⟩, rfl, rfl, rfl⟩

theorem State.calSound_zeroResult {s : State} (m1 : Int) (q : Nat) (h : s.cu.sound) : (s.zeroResult m1 q).cu.sound := by
  unfold State.zeroResult
  dsimp only
  split
  · rw [State.calDone_eq]; exact Cu.sound_ended h.1 _
  · rw [State.calFail_eq]; exact Cu.sound_ended h.1 _

theorem State.calSound_completeWindow {s : State} (h : s.cu.sound) : s.completeWindow.cu.sound := by
  unfold State.completeWindow
  dsimp only
  split
  · exact State.calSound_abortWeigh _ h
  · split
    · rw [State.acceptPass_eq]; exact h
    next lift => exact State.calSound_tareResult (s := { s with we.windowOpen := false }) _ h lift
    next lift => exact State.calSound_loadedResult (s := { s with we.windowOpen := false }) _ h lift
    · exact State.calSound_zeroResult (s := { s with we.windowOpen := false }) _ _ h
    · exact h

theorem State.calSound_judgeSample {s : State} (theta phi : Int) (h : s.cu.sound) : (s.judgeSample theta phi).cu.sound := by
  have low := State.calSound_lowEntry h
  have up : (s.takeUpBoom theta).cu.sound := by
    unfold State.takeUpBoom
    split
    · exact low
    · exact h
  have carried : (s.judgeCarried theta phi).cu.sound := by
    unfold State.judgeCarried
    split
    · exact low
    · exact h
  unfold State.judgeSample
  split
  · exact h
  · exact up
  · split
    · exact h
    · exact up
  · unfold State.judgeLow
    split <;> exact h
  · unfold State.judgeLifting
    split_ifs
    · exact low
    · exact Cu.sound_enterWindow h
    · exact h
    · exact h
  · unfold State.judgeWeighing
    split_ifs
    · exact State.calSound_completeWindow
        (s := { s with ct.tracker := .raised, ct.windowTimer := .stopped, ct.highTheta := none }) h
    · exact State.calSound_abortWeigh .lowered h
    · exact h
  · exact carried
  · exact carried
  · unfold State.judgeDumping
    split <;> exact h

/-! ### The calibration orders (R82 to R94) -/

theorem State.calSound_calTare {s : State} (p : Port) (h : s.cu.sound) : (orderCalTare p s).state.cu.sound := by
  unfold orderCalTare
  split
  · exact h
  · split
    · exact h
    · split
      · exact h
      · unfold Answer.done; rw [State.queueAdvisory_eq]; exact ⟨h.1, rfl, rfl, rfl⟩

theorem natInRange_iff {lo hi n : Nat} : natInRange lo hi n = true ↔ lo ≤ n ∧ n ≤ hi := by simp [natInRange]

theorem State.calSound_calLoaded {s : State} (p : Port) (m : BitVec 16) (h : s.cu.sound) :
    (orderCalLoaded p m s).state.cu.sound := by
  have scratch := h.2
  unfold orderCalLoaded
  split
  · exact h
  · split
    · exact h
    next passes =>
      split
      · exact h
      next waiting =>
        simp only [Cu.scratchSound, not_not.1 waiting] at scratch
        obtain ⟨noLoaded, tare, -⟩ := scratch
        exact ⟨h.1, noLoaded, tare, m.toNat, rfl, natInRange_iff.1 (by simpa using passes)⟩

theorem State.calSound_calZero {s : State} (p : Port) (h : s.cu.sound) : (orderCalZero p s).state.cu.sound := by
  have scratch := h.2
  unfold orderCalZero
  split
  · exact h
  · split
    · exact h
    next ready =>
      have idle : s.cu.cal = .idle := by
        by_contra running; exact ready (Or.inl running)
      simp only [Cu.scratchSound, idle] at scratch
      split
      · exact h
      · unfold Answer.done
        dsimp only
        rw [State.queueAdvisory_eq]
        split <;> exact ⟨h.1, scratch⟩

theorem inRange_iff {lo hi x : Int} : inRange lo hi x = true ↔ lo ≤ x ∧ x ≤ hi := by simp [inRange]

theorem mem_eightIndices (b : Fin 8) : b ∈ eightIndices := by fin_cases b <;> simp [eightIndices]

theorem State.calSound_writeTable {s : State} (p : Port) (w : TableWire) (h : s.cu.sound) :
    (orderWriteTable p w s).state.cu.sound := by
  have scratch := h.2
  unfold orderWriteTable
  split
  · exact h
  · split
    · exact h
    next passes =>
      split
      · exact h
      next idle =>
        simp only [tableFirstBad, firstFailing_eq_none, List.forall_mem_cons, List.forall_mem_append, List.forall_mem_map,
          Bool.and_eq_true, decide_eq_true_eq] at passes
        obtain ⟨mref, -, loaded⟩ := passes
        refine ⟨⟨⟨_, rfl, natInRange_iff.1 mref⟩, rfl, fun b => ?_⟩, scratch⟩
        simpa [Answer.done, minSpan] using (loaded b (mem_eightIndices b)).2

theorem calSound_reset : State.reset.cu.sound := ⟨⟨rfl, rfl, rfl, rfl⟩, rfl, rfl, rfl⟩

/-- Every command keeps the calibration table and the scratch table in agreement with their states. -/
theorem calibrationSound_kept : BlockKept State.calibrationSound where
  port _ _ _ h := h
  lines _ _ h := h
  strip _ _ h := h
  links _ _ _ _ h := h
  mail _ _ _ _ _ _ h := h
  counters _ _ _ _ _ h := h
  held _ _ h := h
  nextTruck _ _ h := h
  materials _ _ h := h
  idleTimer _ _ h := h
  reset := calSound_reset
  timers _ h := h
  judge _ theta phi h := State.calSound_judgeSample theta phi h
  filter _ _ _ _ _ _ _ _ h := h
  loss s h := by
    unfold State.trackerLoss
    split
    · exact State.calSound_abortIfWeighing .sensorLost h
    · exact h
  park s b h := by
    unfold State.parkChange
    dsimp only
    split
    · exact State.calSound_abortIfWeighing (s := { s with ct.park := b }) .park h
    · exact h
  dumpSwitch s a b h := by obtain ⟨_, e⟩ := State.dumpSwitchChange_frame a b s; rw [e]; exact h
  event s e h := by obtain ⟨_, _, _, _, _, _, _, _, _, _, _, _, taken⟩ := State.takeEvent_frame e s; rw [taken]; exact h
  timeout s h := by
    unfold State.windowTimeout
    split
    · exact State.calSound_abortIfWeighing .timeout h
    · exact h
  dwell s h := by obtain ⟨_, _, _, _, _, _, _, _, _, _, _, _, e⟩ := State.dwellExpiry_frame s; rw [e]; exact h
  lapse s h := State.calSound_abandonCal (s := { s with ex.hold := none, ex.holdTimer := .stopped }) .aborted h
  loadSecond s h := by obtain ⟨_, _, e⟩ := State.loadSecond_frame s; rw [e]; exact h
  run s h := by obtain ⟨_, _, _, _, e⟩ := orderRun_frame s; rw [e]; exact h
  stop s h := by
    obtain ⟨_, e⟩ := State.samplingStop_frame s.trackerStop
    show s.trackerStop.samplingStop.cu.sound
    rw [e]
    unfold State.trackerStop
    split
    · exact h
    · exact State.calSound_abortIfWeighing .stopped h
  setTarget s p w h := by obtain ⟨_, _, _, _, _, e⟩ := orderSetTarget_frame p w s; rw [e]; exact h
  close s c _ h := by rw [State.closeLoad_eq]; exact h
  releaseLoad s n h := by obtain ⟨_, e⟩ := orderReleaseLoad_frame n s; rw [e]; exact h
  writeWeigh s p w h := by
    unfold orderWriteWeigh State.placeWeigh Answer.done
    split
    · exact h
    · split
      · exact h
      · dsimp only
        split
        · exact State.calSound_applyWeigh _ h
        · exact h
  writeCycle s p w h := by
    unfold orderWriteCycle State.placeCycle Answer.done
    split
    · exact h
    · split
      · exact h
      · dsimp only
        split
        · rw [State.applyPendingWeigh_eq]
          exact State.calSound_applyWeigh (s := { s with ct.cycle := cycleOfWire w, ct.pendingCycle := none }) _ h
        · exact h
  writeLoad s w h := by obtain ⟨_, _, e⟩ := orderWriteLoad_frame w s; rw [e]; exact h
  takeHold s p h := by obtain ⟨_, _, e⟩ := orderTakeHold_frame p s; rw [e]; exact h
  calTare _ p h := State.calSound_calTare p h
  calLoaded _ p m h := State.calSound_calLoaded p m h
  calZero _ p h := State.calSound_calZero p h
  calAbort s p h := by
    unfold orderCalAbort
    split
    · exact h
    · exact State.calSound_abandonCal .aborted h
  writeTable _ p w h := State.calSound_writeTable p w h

/-- Settles O56: both are kept by every event and every order, block by block. -/
theorem stepKeepsRecords : Obligations.StepKeepsRecords := by
  unfold Obligations.StepKeepsRecords
  exact fun s t e => ⟨fun h => thresholdsSound_kept.kept.step h e, fun h => calibrationSound_kept.kept.step h e⟩

end Sys2Proof.Machine
end

section
/-! Every step keeps the tracker in agreement with sampling, with the weigh window and with its timers (1.1.1, R44, R54), and the
hold in agreement with its idle timer and with a running calibration (R80, R154). -/

namespace Sys2Proof.Machine

open Sys2Proof

/-! ### Timers -/

@[simp] theorem Timer.tick_eq_stopped {period : Nat} {t : Timer} : t.tick period = .stopped ↔ t = .stopped := by
  cases t <;> simp [Timer.tick]

/-! ### Calibration states: no lift outside the window -/

@[simp] theorem CalState.isLift_abortWindow (c : CalState) : c.abortWindow.isLift = false := by cases c <;> rfl

@[simp] theorem CalState.abortWindow_eq_idle {c : CalState} : c.abortWindow = .idle ↔ c = .idle := by
  cases c <;> simp [CalState.abortWindow]

@[simp] theorem CalState.enterWindow_eq_idle {c : CalState} : c.enterWindow = .idle ↔ c = .idle := by
  cases c <;> simp [CalState.enterWindow]

/-- The tracker's agreement outside WEIGHING: no window, no lift, and the timers and the memory as the state says. -/
theorem State.trackerSound_iff_of_not_weighing {s : State} (h : s.ct.tracker ≠ .weighing) :
    s.trackerSound ↔
      (s.sp.sampling = .stopped ↔ s.ct.tracker = .stopped) ∧ (s.ct.cycleRef = .stopped ↔ s.ct.tracker = .stopped)
        ∧ (s.we.windowOpen = false ∧ s.ct.highTheta = none ∧ s.ct.windowTimer = .stopped ∧ s.cu.cal.isLift = false)
        ∧ (s.ct.dwellTimer ≠ .stopped → s.ct.tracker = .raised ∨ s.ct.tracker = .returning)
        ∧ (s.ct.belowStart = true → s.ct.tracker = .lifting) := by
  simp only [State.trackerSound, h, iff_false, imp_false]
  simp
  tauto

/-- After an event that aborts a weigh in progress, no window is open and no lift runs; the rest is as it was (R40, R84). -/
structure State.Quieted (s t : State) : Prop where
  windowOpen : t.we.windowOpen = false
  highTheta : t.ct.highTheta = none
  windowTimer : t.ct.windowTimer = .stopped
  noLift : t.cu.cal.isLift = false
  sampling : t.sp.sampling = s.sp.sampling
  tracker : t.ct.tracker = s.ct.tracker
  cycleRef : t.ct.cycleRef = s.ct.cycleRef
  dwellTimer : t.ct.dwellTimer = s.ct.dwellTimer

theorem State.quieted_abortWeigh (c : AbortCause) (s : State) : s.Quieted (s.abortWeigh c) := by
  rw [State.abortWeigh_eq]
  exact ⟨rfl, rfl, rfl, CalState.isLift_abortWindow _, rfl, rfl, rfl, rfl⟩

theorem State.quieted_abortIfWeighing {s : State} (h : s.trackerSound) (c : AbortCause) :
    s.Quieted (s.abortIfWeighing c) := by
  by_cases weighing : s.ct.tracker = .weighing
  · rw [State.abortIfWeighing_weighing weighing]
    obtain ⟨h1, h2, h3, h4, h5, h6, h7, h8⟩ := State.quieted_abortWeigh c s
    exact ⟨h1, h2, h3, h4, h5, h6, h7, h8⟩
  · rw [State.abortIfWeighing_other weighing]
    obtain ⟨-, -, ⟨h1, h2, h3, h4⟩, -⟩ := (State.trackerSound_iff_of_not_weighing weighing).1 h
    exact ⟨h1, h2, h3, h4, rfl, rfl, rfl, rfl⟩

/-- A quieted part whose tracker stands down in a state outside WEIGHING agrees with itself (R31 to R34). -/
theorem State.trackerSound_standDown {s t : State} (h : s.Quieted t) {k : Tracker} (r : Timer) {high : Option Int}
    (noHigh : high = none) (outside : k ≠ .weighing) (sampling : s.sp.sampling = .stopped ↔ k = .stopped)
    (ref : r = .stopped ↔ k = .stopped) :
    State.trackerSound { t with ct := { t.ct.standDown with tracker := k, cycleRef := r, highTheta := high } } :=
  (State.trackerSound_iff_of_not_weighing outside).2
    ⟨h.sampling ▸ sampling, ref, ⟨h.windowOpen, noHigh, rfl, h.noLift⟩, fun h => absurd rfl h, by rintro ⟨⟩⟩

theorem State.trackerSound_parkChange {s : State} (level : Bool) (h : s.trackerSound) : (s.parkChange level).trackerSound := by
  have parked : State.trackerSound { s with ct.park := level } := h
  unfold State.parkChange
  dsimp only
  split
  next moves =>
    have running : s.ct.tracker ≠ .stopped := by
      rintro e; simp [e, Tracker.inCycle] at moves
    have quiet := State.quieted_abortIfWeighing parked .park
    have ref : (State.abortIfWeighing .park { s with ct.park := level }).ct.cycleRef = .stopped
        ↔ Tracker.parked = .stopped := by
      rw [quiet.cycleRef]; simpa [running] using h.2.2.2.2.2.2.1
    exact State.trackerSound_standDown quiet _ quiet.highTheta (by decide) (by simpa [running] using h.1) ref
  · exact parked

theorem State.trackerSound_trackerLoss {s : State} (h : s.trackerSound) : s.trackerLoss.trackerSound := by
  unfold State.trackerLoss
  split
  next cycle =>
    have running : s.ct.tracker ≠ .stopped := by
      rintro e; simp [e, Tracker.inCycle] at cycle
    have quiet := State.quieted_abortIfWeighing h .sensorLost
    have ref : (State.abortIfWeighing .sensorLost s).ct.cycleRef = .stopped ↔ Tracker.sensorWait = .stopped := by
      rw [quiet.cycleRef]; simpa [running] using h.2.2.2.2.2.2.1
    exact State.trackerSound_standDown quiet _ rfl (by decide) (by simpa [running] using h.1) ref
  · exact h

theorem State.trackerSound_run {s : State} (h : s.trackerSound) : (orderRun s).state.trackerSound := by
  show s.samplingRun.trackerRun.trackerSound
  cases sampling : s.sp.sampling with
  | running =>
    have moving : s.ct.tracker ≠ .stopped := fun e => by simpa [sampling] using h.1.2 e
    have running : s.samplingRun = s := by unfold State.samplingRun; rw [sampling]
    rw [running]
    unfold State.trackerRun
    rwa [if_neg moving]
  | stopped =>
    have still : s.ct.tracker = .stopped := h.1.1 sampling
    obtain ⟨-, -, ⟨h1, h2, h3, h4⟩, -⟩ := (State.trackerSound_iff_of_not_weighing (by simp [still])).1 h
    unfold State.samplingRun State.trackerRun
    rw [sampling]
    dsimp only
    rw [if_pos still]
    have paced : ∀ q : Sp, q.startPacing.sampling = q.sampling := fun q => by unfold Sp.startPacing; split <;> rfl
    have left : (if s.ct.park = true then Tracker.parked else .sensorWait) ≠ .stopped := by split <;> decide
    have outside : (if s.ct.park = true then Tracker.parked else .sensorWait) ≠ .weighing := by split <;> decide
    refine (State.trackerSound_iff_of_not_weighing outside).2
      ⟨?_, by simp [left], ⟨h1, rfl, rfl, h4⟩, fun e => absurd rfl e, by rintro ⟨⟩⟩
    simp [paced, left]

theorem State.trackerSound_stop {s : State} (h : s.trackerSound) : (orderStop s).state.trackerSound := by
  show s.trackerStop.samplingStop.trackerSound
  by_cases still : s.ct.tracker = .stopped
  · have stopped : s.sp.sampling = .stopped := h.1.2 still
    unfold State.trackerStop
    rw [if_pos still]
    unfold State.samplingStop
    rwa [stopped]
  · have running : s.sp.sampling = .running := by
      cases e : s.sp.sampling with
      | running => rfl
      | stopped => exact absurd (h.1.1 e) still
    have quiet := State.quieted_abortIfWeighing h .stopped
    unfold State.trackerStop
    rw [if_neg still]
    unfold State.samplingStop
    dsimp only
    rw [quiet.sampling, running]
    dsimp only
    exact (State.trackerSound_iff_of_not_weighing (by simp)).2
      ⟨by simp, by simp, ⟨quiet.windowOpen, quiet.highTheta, rfl, quiet.noLift⟩, fun e => absurd rfl e, by rintro ⟨⟩⟩

theorem State.trackerSound_windowTimeout {s : State} (h : s.trackerSound) : s.windowTimeout.trackerSound := by
  unfold State.windowTimeout
  split
  next expired =>
    obtain ⟨-, weighing⟩ := expired
    obtain ⟨sampling, -, -, -, dwell, -, ref, -⟩ := h
    rw [weighing] at sampling dwell ref
    rw [State.abortIfWeighing_weighing weighing, State.abortWeigh_eq]
    refine (State.trackerSound_iff_of_not_weighing (s := State.enter .lifting _) (by simp [State.enter])).2
      ⟨?_, ?_, ⟨rfl, rfl, rfl, CalState.isLift_abortWindow _⟩, ?_, by rintro ⟨⟩⟩
    · simpa [State.enter] using sampling
    · simpa [State.enter] using ref
    · simpa [State.enter] using dwell
  · exact h

/-! ### A sample's judgement (R35 to R48) -/

/-- The completion of a window leaves no window open and no lift, and touches CT only with an abort (R61, R70). -/
theorem State.completeWindow_closes (s : State) :
    s.completeWindow.we.windowOpen = false ∧ s.completeWindow.cu.cal.isLift = false
      ∧ (s.completeWindow.ct = s.ct ∨ s.completeWindow.ct = (s.abortWeigh .noData).ct) ∧ s.completeWindow.sp = s.sp := by
  unfold State.completeWindow
  dsimp only
  split
  · rw [State.abortWeigh_eq]; exact ⟨rfl, CalState.isLift_abortWindow _, Or.inr rfl, rfl⟩
  · split
    next idle => rw [State.acceptPass_eq]; exact ⟨rfl, by simp [idle, CalState.isLift], Or.inl rfl, rfl⟩
    · unfold State.tareResult
      dsimp only
      split_ifs <;> simp [State.calFail_eq, State.queueAdvisory_eq, State.calIdle, CalState.isLift]
    · unfold State.loadedResult State.commitTable
      dsimp only
      split_ifs
      · simp [State.calFail_eq, CalState.isLift]
      · simp [State.calFail_eq, CalState.isLift]
      · split <;> simp [State.calFail_eq, State.calDone_eq, State.calIdle, CalState.isLift]
    · unfold State.zeroResult
      dsimp only
      split_ifs <;> simp [State.calFail_eq, State.calDone_eq, State.calIdle, CalState.isLift]
    next cal noIdle noTare noLoaded noZero =>
      refine ⟨rfl, ?_, Or.inl rfl, rfl⟩
      cases e : s.cu.cal <;> simp_all [CalState.isLift]

/-- A WEIGH record leaves a calibration as it was, or ends it (R75, R93). -/
theorem State.applyWeigh_cal (r : WeighRec) (s : State) :
    (s.applyWeigh r).cu.cal = s.cu.cal ∨ (s.applyWeigh r).cu.cal = .idle := by
  cases same : s.we.weigh.sameGeometry r
  · rw [State.applyWeigh_other same]
    by_cases idle : s.cu.cal = .idle
    · exact Or.inl (by rw [State.geometryChange_idle (s := { s with we.weigh := r, we.pendingWeigh := none }) idle])
    · exact Or.inr (by
        rw [State.geometryChange_running (s := { s with we.weigh := r, we.pendingWeigh := none }) idle]; rfl)
  · rw [State.applyWeigh_same same]; exact Or.inl rfl

theorem State.applyWeigh_noLift {s : State} (h : s.cu.cal.isLift = false) (r : WeighRec) :
    (s.applyWeigh r).cu.cal.isLift = false := by
  rcases State.applyWeigh_cal r s with e | e <;> rw [e]
  · exact h
  · rfl

theorem State.trackerSound_lowEntry {s : State} (h : s.trackerSound) (outside : s.ct.tracker ≠ .weighing)
    (moving : s.ct.tracker ≠ .stopped) : s.lowEntry.trackerSound := by
  obtain ⟨sampling, ref, ⟨h1, h2, h3, h4⟩, -⟩ := (State.trackerSound_iff_of_not_weighing outside).1 h
  have cal := State.applyWeigh_noLift (s := { s with ct := s.ct.lowEntered }) h4 (s.we.pendingWeigh.getD s.we.weigh)
  rw [State.lowEntry_eq]
  obtain ⟨_, _, _, _, _, e⟩ := State.applyWeigh_frame (s.we.pendingWeigh.getD s.we.weigh) { s with ct := s.ct.lowEntered }
  rw [e] at cal ⊢
  exact (State.trackerSound_iff_of_not_weighing (by simp [Ct.lowEntered])).2
    ⟨by simpa [moving, Ct.lowEntered] using sampling, by simpa [moving, Ct.lowEntered] using ref, ⟨h1, h2, h3, cal⟩,
      fun e => absurd rfl e, by rintro ⟨⟩⟩

theorem State.trackerSound_takeUpBoom {s : State} (theta : Int) (h : s.trackerSound)
    (waits : s.ct.tracker = .sensorWait ∨ s.ct.tracker = .parked) : (s.takeUpBoom theta).trackerSound := by
  have outside : s.ct.tracker ≠ .weighing := by rcases waits with e | e <;> simp [e]
  have moving : s.ct.tracker ≠ .stopped := by rcases waits with e | e <;> simp [e]
  unfold State.takeUpBoom
  split
  · exact State.trackerSound_lowEntry h outside moving
  · obtain ⟨sampling, ref, closed, -⟩ := (State.trackerSound_iff_of_not_weighing outside).1 h
    exact (State.trackerSound_iff_of_not_weighing (by simp)).2
      ⟨by simpa [moving] using sampling, by simpa [moving] using ref, closed, fun _ => Or.inl rfl, by rintro ⟨⟩⟩

/-- The dwell timer may follow the dump condition in RAISED and in RETURNING (R44). -/
theorem State.trackerSound_followDump {s : State} (h : s.trackerSound) (b : Bool)
    (carried : s.ct.tracker = .raised ∨ s.ct.tracker = .returning) :
    State.trackerSound { s with ct := s.ct.followDump b } := by
  obtain ⟨h1, h2, h3, h4, -, h6, h7, h8⟩ := h
  exact ⟨h1, h2, h3, h4, fun _ => carried, h6, h7, h8⟩

theorem State.trackerSound_judgeCarried {s : State} (theta phi : Int) (h : s.trackerSound)
    (carried : s.ct.tracker = .raised ∨ s.ct.tracker = .returning) : (s.judgeCarried theta phi).trackerSound := by
  unfold State.judgeCarried
  split
  · exact State.trackerSound_lowEntry h (by rcases carried with e | e <;> simp [e]) (by rcases carried with e | e <;> simp [e])
  · exact State.trackerSound_followDump h _ carried

theorem State.trackerSound_judgeDumping {s : State} (theta phi : Int) (h : s.trackerSound) (dumping : s.ct.tracker = .dumping) :
    (s.judgeDumping theta phi).trackerSound := by
  unfold State.judgeDumping
  split
  · simp only [State.trackerSound, State.enter, dumping] at h ⊢
    simp at h ⊢
    tauto
  · exact h

theorem State.trackerSound_judgeLow {s : State} (theta : Int) (h : s.trackerSound) (low : s.ct.tracker = .low) :
    (s.judgeLow theta).trackerSound := by
  unfold State.judgeLow
  split
  · simp only [State.trackerSound, We.emptyHistory, low] at h ⊢
    simp at h ⊢
    tauto
  · exact h

theorem State.trackerSound_judgeLifting {s : State} (theta : Int) (h : s.trackerSound) (lifting : s.ct.tracker = .lifting) :
    (s.judgeLifting theta).trackerSound := by
  unfold State.judgeLifting
  split_ifs
  · exact State.trackerSound_lowEntry h (by simp [lifting]) (by simp [lifting])
  · simp only [State.trackerSound, State.weighingEntry, We.openWindow, lifting] at h ⊢
    simp at h ⊢
    tauto
  · simp only [State.trackerSound, lifting] at h ⊢
    simp at h ⊢
    tauto
  · exact h

theorem State.trackerSound_judgeWeighing {s : State} (theta : Int) (h : s.trackerSound) (weighing : s.ct.tracker = .weighing) :
    (s.judgeWeighing theta).trackerSound := by
  obtain ⟨sampling, window, -, timer, dwell, below, ref, -⟩ := h
  simp [weighing] at sampling window timer dwell below ref
  unfold State.judgeWeighing
  split_ifs
  · obtain ⟨closed, noLift, ct, sp⟩ := State.completeWindow_closes
      { s with ct.tracker := .raised, ct.windowTimer := .stopped, ct.highTheta := none }
    rw [State.abortWeigh_eq] at ct
    generalize State.completeWindow _ = t at closed noLift ct sp
    rcases ct with ct | ct <;> exact (State.trackerSound_iff_of_not_weighing (by simp [ct])).2
      ⟨by simpa [ct, sp] using sampling, by simpa [ct] using ref, ⟨closed, by simp [ct], by simp [ct], noLift⟩,
        by simp [ct], by simp [ct, below]⟩
  · rw [State.abortWeigh_eq]
    exact (State.trackerSound_iff_of_not_weighing (by simp [State.enter])).2
      ⟨by simpa [State.enter] using sampling, by simpa [State.enter] using ref,
        ⟨rfl, rfl, rfl, CalState.isLift_abortWindow _⟩, by simpa [State.enter] using dwell, by simp [State.enter]⟩
  · simp_all [State.trackerSound]

theorem State.trackerSound_judgeSample {s : State} (theta phi : Int) (h : s.trackerSound) :
    (s.judgeSample theta phi).trackerSound := by
  unfold State.judgeSample
  split
  case h_1 => exact h
  case h_2 tracker => exact State.trackerSound_takeUpBoom theta h (Or.inl tracker)
  case h_3 tracker =>
    split
    · exact h
    · exact State.trackerSound_takeUpBoom theta h (Or.inr tracker)
  case h_4 tracker => exact State.trackerSound_judgeLow theta h tracker
  case h_5 tracker => exact State.trackerSound_judgeLifting theta h tracker
  case h_6 tracker => exact State.trackerSound_judgeWeighing theta h tracker
  case h_7 tracker => exact State.trackerSound_judgeCarried theta phi h (Or.inl tracker)
  case h_8 tracker => exact State.trackerSound_judgeCarried theta phi h (Or.inr tracker)
  case h_9 tracker => exact State.trackerSound_judgeDumping theta phi h tracker

/-! ### Levels, expiries and orders -/

theorem State.trackerSound_dumpSwitchChange {s : State} (level configured : Bool) (h : s.trackerSound) :
    (s.dumpSwitchChange level configured).trackerSound := by
  have switched : State.trackerSound { s with ct.dumpSwitch := level, ct.dumpConfigured := configured } := h
  unfold State.dumpSwitchChange
  dsimp only
  split
  · split
    next raised => exact State.trackerSound_followDump switched _ (Or.inl raised)
    next returning => exact State.trackerSound_followDump switched _ (Or.inr returning)
    next dumping => exact State.trackerSound_judgeDumping _ _ switched dumping
    · exact switched
  · exact switched

theorem State.trackerSound_dwellExpiry {s : State} (h : s.trackerSound) : s.dwellExpiry.trackerSound := by
  unfold State.dwellExpiry
  split
  · split
    next raised =>
      have dumping : ∀ c, State.trackerSound { s with
          ct := { s.ct with tracker := .dumping, dwellTimer := .stopped, cycleRef := .counting 0, latestCycle := c } } := by
        simp [State.trackerSound, raised] at h ⊢
        tauto
      unfold State.dumpEntry
      dsimp only
      split
      · obtain ⟨_, _, _, _, _, _, _, _, _, _, _, e⟩ := State.credit_frame (State.countCycle s.ct.cycleTime { s with
          ct := { s.ct with
            tracker := .dumping, dwellTimer := .stopped, cycleRef := .counting 0, latestCycle := some s.ct.cycleTime } })
        rw [e]; exact dumping _
      · exact dumping _
    next returning =>
      simp [State.trackerSound, returning] at h ⊢
      tauto
    · exact h
  · exact h

theorem State.trackerSound_calibration {s : State} (h : s.trackerSound) {u : Cu} (noLift : u.cal.isLift = false)
    (d : Sd) (x : Ex) : State.trackerSound { s with cu := u, sd := d, ex := x } := by
  obtain ⟨h1, h2, h3, h4, h5, h6, h7, -⟩ := h
  exact ⟨h1, h2, h3, h4, h5, h6, h7, by simp [noLift]⟩

theorem State.trackerSound_abandonCal {s : State} (h : s.trackerSound) (c : CalCause) : (s.abandonCal c).trackerSound := by
  by_cases idle : s.cu.cal = .idle
  · rwa [State.abandonCal_idle idle]
  · rw [State.abandonCal_running idle]
    exact State.trackerSound_calibration h rfl _ _

theorem State.trackerSound_applyWeigh {s : State} (h : s.trackerSound) (r : WeighRec) : (s.applyWeigh r).trackerSound := by
  obtain ⟨h1, h2, h3, h4, h5, h6, h7, h8⟩ := h
  have cal := State.applyWeigh_cal r s
  obtain ⟨_, _, _, _, _, e⟩ := State.applyWeigh_frame r s
  rw [e] at cal ⊢
  refine ⟨h1, h2, h3, h4, h5, h6, h7, fun lift => ?_⟩
  rcases cal with e | e <;> rw [e] at lift
  · exact h8 lift
  · cases lift

theorem trackerSound_blockKept : BlockKept State.trackerSound where
  port s p same h := by
    obtain ⟨sampling, rest⟩ := h
    exact ⟨by simpa [same] using sampling, rest⟩
  lines _ _ h := h
  strip _ _ h := h
  links _ _ _ _ h := h
  mail _ _ _ _ _ _ h := h
  counters _ _ _ _ _ h := h
  held _ _ h := h
  nextTruck _ _ h := h
  materials _ _ h := h
  idleTimer _ _ h := h
  reset := by simp [State.trackerSound, State.reset, Sp.reset, Ct.reset, We.reset, Cu.reset, CalState.isLift]
  timers s h := by simpa [State.trackerSound, State.tickTimers] using h
  judge s theta phi h := State.trackerSound_judgeSample theta phi h
  filter _ _ _ _ _ _ _ _ h := h
  loss _ h := State.trackerSound_trackerLoss h
  park _ b h := State.trackerSound_parkChange b h
  dumpSwitch _ a b h := State.trackerSound_dumpSwitchChange a b h
  event s e h := by
    obtain ⟨_, _, _, _, _, _, _, _, _, _, _, _, e⟩ := State.takeEvent_frame e s
    rw [e]; exact h
  timeout _ h := State.trackerSound_windowTimeout h
  dwell _ h := State.trackerSound_dwellExpiry h
  lapse _ h := State.trackerSound_abandonCal (by exact h) _
  loadSecond s h := by unfold State.loadSecond; split <;> exact h
  run _ h := State.trackerSound_run h
  stop _ h := State.trackerSound_stop h
  setTarget s p w h := by
    unfold orderSetTarget
    split
    · exact h
    · obtain ⟨_, _, _, _, e⟩ := State.announceLoad_frame s.lt.load.state
        (State.recomputeLoad { s with lt.load := s.lt.load.withTarget p w })
      dsimp only
      rw [e]; exact h
  close s c _ h := by rw [State.closeLoad_eq]; exact h
  releaseLoad s n h := by
    obtain ⟨_, e⟩ := orderReleaseLoad_frame n s
    rw [e]; exact h
  writeWeigh s p w h := by
    unfold orderWriteWeigh State.placeWeigh
    split
    · exact h
    · split
      · exact h
      · dsimp only [Answer.done]
        split
        · exact State.trackerSound_applyWeigh h _
        · exact h
  writeCycle s p w h := by
    unfold orderWriteCycle State.placeCycle
    split
    · exact h
    · split
      · exact h
      · dsimp only [Answer.done]
        split
        · rw [State.applyPendingWeigh_eq]
          exact State.trackerSound_applyWeigh (by exact h) _
        · exact h
  writeLoad s w h := by unfold orderWriteLoad; split <;> exact h
  takeHold s p h := by
    unfold orderTakeHold
    split
    · exact h
    · split <;> exact h
  calTare s p h := by
    unfold orderCalTare
    split
    · exact h
    · split_ifs
      · exact h
      · exact h
      · dsimp only [Answer.done]
        rw [State.queueAdvisory_eq]
        exact State.trackerSound_calibration h rfl _ _
  calLoaded s p m h := by
    unfold orderCalLoaded
    split
    · exact h
    · split_ifs
      · exact h
      · exact h
      · exact State.trackerSound_calibration h rfl _ _
  calZero s p h := by
    unfold orderCalZero
    split_ifs
    · exact h
    · exact h
    · exact h
    all_goals
      dsimp only [Answer.done]
      rw [State.queueAdvisory_eq]
      exact State.trackerSound_calibration h rfl _ _
  calAbort s p h := by
    unfold orderCalAbort
    split
    · exact h
    · exact State.trackerSound_abandonCal h _
  writeTable s p w h := by
    unfold orderWriteTable
    split
    · exact h
    · split
      · exact h
      · split <;> exact h

/-! ### The hold (R80, R154) -/

/-- From `s` to `t` the hold and its timer stay, and a calibration that runs in `t` ran in `s` and let no pass in. -/
structure State.HoldKept (s t : State) : Prop where
  hold : t.ex.hold = s.ex.hold
  timer : t.ex.holdTimer = s.ex.holdTimer
  running : t.cu.cal ≠ .idle → s.cu.cal ≠ .idle ∧ (s.lt.held = none → t.lt.held = none)

theorem State.HoldKept.sound {s t : State} (k : s.HoldKept t) (h : s.holdSound) : t.holdSound := by
  obtain ⟨timer, calibrating⟩ := h
  refine ⟨by rw [k.hold, k.timer]; exact timer, fun running => ?_⟩
  obtain ⟨ran, none⟩ := k.running running
  obtain ⟨holder, noPass⟩ := calibrating ran
  exact ⟨by rw [k.hold]; exact holder, none noPass⟩

theorem State.HoldKept.refl (s : State) : s.HoldKept s := ⟨rfl, rfl, fun r => ⟨r, id⟩⟩

theorem State.HoldKept.trans {s t u : State} (k : s.HoldKept t) (l : t.HoldKept u) : s.HoldKept u where
  hold := l.hold.trans k.hold
  timer := l.timer.trans k.timer
  running r := ⟨(k.running (l.running r).1).1, fun h => (l.running r).2 ((k.running (l.running r).1).2 h)⟩

/-- What leaves the hold and the held pass, and starts no calibration. -/
theorem State.HoldKept.of_cal {s t : State} (hold : t.ex.hold = s.ex.hold) (timer : t.ex.holdTimer = s.ex.holdTimer)
    (held : t.lt.held = s.lt.held) (cal : s.cu.cal = .idle → t.cu.cal = .idle) : s.HoldKept t :=
  ⟨hold, timer, fun r => ⟨fun e => r (cal e), fun h => held.trans h⟩⟩

theorem State.holdKept_abandonCal (c : CalCause) (s : State) : s.HoldKept (s.abandonCal c) := by
  by_cases idle : s.cu.cal = .idle
  · rw [State.abandonCal_idle idle]; exact .refl s
  · rw [State.abandonCal_running idle]; exact .of_cal rfl rfl rfl fun _ => rfl

theorem State.holdKept_applyWeigh (r : WeighRec) (s : State) : s.HoldKept (s.applyWeigh r) := by
  have cal := State.applyWeigh_cal r s
  obtain ⟨_, _, _, _, _, e⟩ := State.applyWeigh_frame r s
  rw [e] at cal ⊢
  exact .of_cal rfl rfl rfl fun idle => cal.elim (fun c => c.trans idle) id

theorem State.holdKept_lowEntry (s : State) : s.HoldKept s.lowEntry := by
  rw [State.lowEntry_eq]
  exact .trans (t := { s with ct := s.ct.lowEntered }) (.of_cal rfl rfl rfl id) (State.holdKept_applyWeigh _ _)

theorem State.holdKept_abortWeigh (c : AbortCause) (s : State) : s.HoldKept (s.abortWeigh c) := by
  rw [State.abortWeigh_eq]
  exact .of_cal rfl rfl rfl CalState.abortWindow_eq_idle.2

theorem State.holdKept_abortIfWeighing (c : AbortCause) (s : State) : s.HoldKept (s.abortIfWeighing c) := by
  by_cases weighing : s.ct.tracker = .weighing
  · rw [State.abortIfWeighing_weighing weighing]
    exact .trans (State.holdKept_abortWeigh c s) (.of_cal rfl rfl rfl id)
  · rw [State.abortIfWeighing_other weighing]; exact .refl s

/-- A completed window lets a pass in only while no calibration runs (R61, R70, R80). -/
theorem State.holdKept_completeWindow (s : State) : s.HoldKept s.completeWindow := by
  unfold State.completeWindow
  dsimp only
  split
  · exact State.holdKept_abortWeigh .noData s
  · split
    next idle => rw [State.acceptPass_eq]; exact ⟨rfl, rfl, fun running => absurd idle running⟩
    next tare =>
      obtain ⟨_, _, _, _, _, e⟩ := State.tareResult_frame s.we.qualifying.length { s with we.windowOpen := false }
      rw [e]; exact .of_cal rfl rfl rfl fun idle => by rw [tare] at idle; cases idle
    next loaded =>
      obtain ⟨_, _, _, _, _, e⟩ := State.loadedResult_frame s.we.qualifying.length { s with we.windowOpen := false }
      rw [e]; exact .of_cal rfl rfl rfl fun idle => by rw [loaded] at idle; cases idle
    next zero =>
      obtain ⟨_, _, _, _, _, _, e⟩ := State.zeroResult_frame (correctedMass s.cu s.we) s.we.qualifying.length
        { s with we.windowOpen := false }
      rw [e]; exact .of_cal rfl rfl rfl fun idle => by rw [zero] at idle; cases idle
    · exact .of_cal rfl rfl rfl id

theorem State.holdKept_judgeSample (theta phi : Int) (s : State) : s.HoldKept (s.judgeSample theta phi) := by
  have low := State.holdKept_lowEntry s
  have up : s.HoldKept (s.takeUpBoom theta) := by
    unfold State.takeUpBoom
    split
    · exact low
    · exact .of_cal rfl rfl rfl id
  have carried : s.HoldKept (s.judgeCarried theta phi) := by
    unfold State.judgeCarried
    split
    · exact low
    · exact .of_cal rfl rfl rfl id
  unfold State.judgeSample
  split
  · exact .refl s
  · exact up
  · split
    · exact .refl s
    · exact up
  · unfold State.judgeLow
    split
    · exact .of_cal rfl rfl rfl id
    · exact .refl s
  · unfold State.judgeLifting
    split_ifs
    · exact low
    · exact .of_cal rfl rfl rfl CalState.enterWindow_eq_idle.2
    · exact .of_cal rfl rfl rfl id
    · exact .refl s
  · unfold State.judgeWeighing
    split_ifs
    · exact .trans (t := { s with ct.tracker := .raised, ct.windowTimer := .stopped, ct.highTheta := none })
        (.of_cal rfl rfl rfl id) (State.holdKept_completeWindow _)
    · exact .trans (State.holdKept_abortWeigh .lowered s) (.of_cal rfl rfl rfl id)
    · exact .of_cal rfl rfl rfl id
  · exact carried
  · exact carried
  · unfold State.judgeDumping
    split
    · exact .of_cal rfl rfl rfl id
    · exact .refl s

theorem State.holdKept_parkChange (b : Bool) (s : State) : s.HoldKept (s.parkChange b) := by
  unfold State.parkChange
  dsimp only
  split
  · exact .trans (t := { s with ct.park := b }) (.of_cal rfl rfl rfl id)
      (.trans (State.holdKept_abortIfWeighing .park { s with ct.park := b }) (.of_cal rfl rfl rfl id))
  · exact .of_cal rfl rfl rfl id

theorem State.holdKept_trackerLoss (s : State) : s.HoldKept s.trackerLoss := by
  unfold State.trackerLoss
  split
  · exact .trans (State.holdKept_abortIfWeighing .sensorLost s) (.of_cal rfl rfl rfl id)
  · exact .refl s

theorem State.holdKept_trackerStop (s : State) : s.HoldKept s.trackerStop := by
  unfold State.trackerStop
  split
  · exact .refl s
  · exact .trans (State.holdKept_abortIfWeighing .stopped s) (.of_cal rfl rfl rfl id)

theorem State.holdKept_windowTimeout (s : State) : s.HoldKept s.windowTimeout := by
  unfold State.windowTimeout
  split
  · exact .trans (State.holdKept_abortIfWeighing .timeout s) (.of_cal rfl rfl rfl id)
  · exact .refl s

theorem State.holdSound_dwellExpiry {s : State} (h : s.holdSound) : s.dwellExpiry.holdSound := by
  unfold State.dwellExpiry
  split
  · split
    · unfold State.dumpEntry
      dsimp only
      split
      next idle =>
        obtain ⟨_, _, _, _, _, _, _, _, _, _, _, e⟩ := State.credit_frame (State.countCycle s.ct.cycleTime { s with
          ct := { s.ct with
            tracker := .dumping, dwellTimer := .stopped, cycleRef := .counting 0, latestCycle := some s.ct.cycleTime } })
        rw [e]
        exact ⟨h.1, fun running => absurd idle running⟩
      · exact h
    · exact h
    · exact h
  · exact h

/-- A function event lets no pass in: TIP_OFF marks the one held (R98, R99). -/
theorem State.takeEvent_heldNone (e : LineEvent) {s : State} (h : s.lt.held = none) : (s.takeEvent e).lt.held = none := by
  cases e
  case tipOff => simp [State.takeEvent, State.tipOff, h]
  case undo =>
    obtain ⟨_, _, _, e⟩ := State.undoPass_frame s
    show s.undoPass.lt.held = none
    rw [e]; exact h
  case nextTruck =>
    obtain ⟨_, _, _, _, _, _, _, _, _, _, e⟩ := State.nextTruckEvent_frame s
    show s.nextTruckEvent.lt.held = none
    rw [e]; exact h
  case discard => simp [State.takeEvent, State.discardPass, h]
  case ackMsg =>
    obtain ⟨_, _, e⟩ := State.ackMessage_frame s
    show s.ackMessage.lt.held = none
    rw [e]; exact h

theorem State.holdKept_takeEvent (v : LineEvent) (s : State) : s.HoldKept (s.takeEvent v) := by
  have held := State.takeEvent_heldNone v (s := s)
  obtain ⟨_, _, _, _, _, _, _, _, _, _, _, _, e⟩ := State.takeEvent_frame v s
  rw [e] at held ⊢
  exact ⟨rfl, rfl, fun running => ⟨running, held⟩⟩

/-- A calibration starts only for the holder, and with no pass held (R80, R81). -/
theorem State.holdSound_arm {s : State} (timer : s.ex.hold = none ↔ s.ex.holdTimer = .stopped) (holder : s.ex.hold ≠ none)
    (noPass : s.lt.held.isSome ≠ true) (u : Cu) (d : Sd) : State.holdSound { s with cu := u, sd := d } :=
  ⟨timer, fun _ => ⟨holder, by simpa using noPass⟩⟩

theorem State.holdRefusal_eq_none {p : Port} {s : State} (h : s.holdRefusal p = none) : s.ex.hold = some p := by
  unfold State.holdRefusal at h
  split at h
  · cases h
  next q holder =>
    split at h
    next same => rw [holder, same]
    · cases h

theorem State.holdSound_giveHold {s : State} (p : Port) (h : s.holdSound) : (s.giveHold p).holdSound :=
  ⟨by simp [State.giveHold], fun running => ⟨by simp [State.giveHold], (h.2 running).2⟩⟩

theorem State.holdSound_loseHold (s : State) : s.loseHold.holdSound := by
  by_cases idle : s.cu.cal = .idle
  · refine State.HoldKept.sound (State.holdKept_abandonCal .aborted { s with ex.hold := none, ex.holdTimer := .stopped }) ?_
    exact ⟨by simp, fun running => absurd idle running⟩
  · show State.holdSound (State.abandonCal .aborted { s with ex.hold := none, ex.holdTimer := .stopped })
    rw [State.abandonCal_running (s := { s with ex.hold := none, ex.holdTimer := .stopped }) idle]
    exact ⟨by simp [Ex.raisedBoth], fun running => absurd rfl running⟩

theorem holdSound_blockKept : BlockKept State.holdSound where
  port _ _ _ h := h
  lines _ _ h := h
  strip _ _ h := h
  links _ _ _ _ h := h
  mail _ _ _ _ _ _ h := h
  counters _ _ _ _ _ h := h
  held _ _ h := h
  nextTruck _ _ h := h
  materials _ _ h := h
  idleTimer s p h := by
    refine ⟨?_, h.2⟩
    dsimp only
    split
    next holder => simp [holder]
    · exact h.1
  reset := ⟨by simp [State.reset, Ex.reset], fun running => absurd rfl running⟩
  timers s h := ⟨by simpa [State.tickTimers] using h.1, h.2⟩
  judge s theta phi := (State.holdKept_judgeSample theta phi s).sound
  filter _ _ _ _ _ _ _ _ h := h
  loss s := (State.holdKept_trackerLoss s).sound
  park s b := (State.holdKept_parkChange b s).sound
  dumpSwitch s a b h := by
    obtain ⟨_, e⟩ := State.dumpSwitchChange_frame a b s
    rw [e]; exact h
  event s e := (State.holdKept_takeEvent e s).sound
  timeout s := (State.holdKept_windowTimeout s).sound
  dwell _ h := State.holdSound_dwellExpiry h
  lapse s _ := State.holdSound_loseHold s
  loadSecond s h := by unfold State.loadSecond; split <;> exact h
  run s h := by
    obtain ⟨_, e⟩ := State.trackerRun_frame s.samplingRun
    obtain ⟨_, _, _, f⟩ := State.samplingRun_frame s
    show s.samplingRun.trackerRun.holdSound
    rw [e, f]; exact h
  stop s h := by
    obtain ⟨_, e⟩ := State.samplingStop_frame s.trackerStop
    show s.trackerStop.samplingStop.holdSound
    rw [e]; exact (State.holdKept_trackerStop s).sound h
  setTarget s p w h := by
    obtain ⟨_, _, _, _, _, e⟩ := orderSetTarget_frame p w s
    rw [e]; exact h
  close s c _ h := by
    obtain ⟨_, _, _, _, _, _, _, _, _, _, e⟩ := State.closeLoad_frame c s
    rw [e]; exact h
  releaseLoad s n h := by
    obtain ⟨_, e⟩ := orderReleaseLoad_frame n s
    rw [e]; exact h
  writeWeigh s p w h := by
    unfold orderWriteWeigh State.placeWeigh
    split
    · exact h
    · split
      · exact h
      · dsimp only [Answer.done]
        split
        · exact (State.holdKept_applyWeigh _ s).sound h
        · exact h
  writeCycle s p w h := by
    unfold orderWriteCycle State.placeCycle
    split
    · exact h
    · split
      · exact h
      · dsimp only [Answer.done]
        split
        · rw [State.applyPendingWeigh_eq]
          exact (State.holdKept_applyWeigh _ _).sound (by exact h)
        · exact h
  writeLoad s w h := by unfold orderWriteLoad; split <;> exact h
  takeHold s p h := by
    unfold orderTakeHold
    split
    · exact State.holdSound_giveHold p h
    · split
      · exact State.holdSound_giveHold p h
      · exact h
  calTare s p h := by
    unfold orderCalTare
    split
    · exact h
    next holder =>
      split_ifs
      · exact h
      · exact h
      next noPass =>
        dsimp only [Answer.done]
        rw [State.queueAdvisory_eq]
        exact State.holdSound_arm h.1 (by simp [State.holdRefusal_eq_none holder]) noPass _ _
  calLoaded s p m h := by
    unfold orderCalLoaded
    split
    · exact h
    · split_ifs
      · exact h
      · exact h
      next wait =>
        have waiting : s.cu.cal = .loadedWait := not_not.1 wait
        exact State.holdSound_arm h.1 (h.2 (by simp [waiting])).1 (by simp [(h.2 (by simp [waiting])).2]) _ s.sd
  calZero s p h := by
    unfold orderCalZero
    split_ifs
    · exact h
    · exact h
    · exact h
    next noPass free =>
      dsimp only [Answer.done]
      rw [State.queueAdvisory_eq]
      exact State.holdSound_arm (s := s.giveHold p) (State.holdSound_giveHold p h).1 (by simp [State.giveHold]) noPass _ _
    next noPass holder =>
      dsimp only [Answer.done]
      rw [State.queueAdvisory_eq]
      exact State.holdSound_arm h.1 (by simpa using holder) noPass _ _
  calAbort s p h := by
    unfold orderCalAbort
    split
    · exact h
    · exact (State.holdKept_abandonCal _ s).sound h
  writeTable s p w h := by
    unfold orderWriteTable
    split
    · exact h
    · split
      · exact h
      · split <;> exact h

/-- Settles O58: what is said of the tracker, and what is said of the hold, each command keeps. -/
theorem stepKeepsTracker : Obligations.StepKeepsTracker := by
  unfold Obligations.StepKeepsTracker
  exact fun s t e => ⟨fun h => trackerSound_blockKept.kept.step h e, fun h => holdSound_blockKept.kept.step h e⟩

end Sys2Proof.Machine
end

section
/-! Every step keeps the tally: the open load, the records of the queue, and the load numbers, which follow one another and so are
distinct (R100 to R102, R109, R121, R122). -/

namespace Sys2Proof.Machine

open Sys2Proof

/-! ### Pass lists and loads (R100) -/

theorem passesSound_concat (ps : List PassEntry) (e : PassEntry) :
    passesSound (ps ++ [e]) ↔
      passesSound ps ∧ ps.length < 12 ∧ e.number = ps.length + 1 ∧ e.credited = creditedMass e.mass := by
  have numbers : (ps ++ [e]).map PassEntry.number = (List.range (ps ++ [e]).length).map (· + 1) ↔
      ps.map PassEntry.number = (List.range ps.length).map (· + 1) ∧ e.number = ps.length + 1 := by
    rw [List.length_append, List.length_singleton, List.range_succ, List.map_append, List.map_append, List.map_singleton,
      List.map_singleton]
    exact ⟨fun h => by simpa using List.append_inj h (by simp), fun ⟨h, k⟩ => by rw [h, k]⟩
  unfold passesSound
  rw [numbers]
  simp only [List.length_append, List.length_singleton, List.mem_append, List.mem_singleton, or_imp, forall_and, forall_eq]
  constructor
  · rintro ⟨short, ⟨numbered, number⟩, credits, credit⟩
    exact ⟨⟨by omega, numbered, credits⟩, by omega, number, credit⟩
  · rintro ⟨⟨-, numbered, credits⟩, short, number, credit⟩
    exact ⟨by omega, ⟨numbered, number⟩, credits, credit⟩

theorem Load.sound_of_parts {l m : Load} (h : l.sound) (passes : m.passes = l.passes) (total : m.total = l.total) :
    m.sound := by
  unfold Load.sound at h ⊢
  rwa [passes, total]

/-- A load with one more pass (R104). -/
theorem Load.sound_append {l : Load} (h : l.sound) (room : l.passes.length < 12) (m : Option Int) (f : PassFlags) :
    Load.sound { l with
      passes := l.passes ++ [⟨l.passes.length + 1, m, f, creditedMass m⟩], total := l.total + creditedMass m } :=
  ⟨(passesSound_concat _ _).2 ⟨h.1, room, rfl, rfl⟩, by simp [h.2]⟩

/-- A load without its newest pass (R106). -/
theorem Load.sound_undo {l : Load} (h : l.sound) {e : PassEntry} (newest : l.passes.getLast? = some e) :
    Load.sound { l with passes := l.passes.dropLast, total := l.total - e.credited } := by
  obtain ⟨passes, total⟩ := h
  have split : l.passes = l.passes.dropLast ++ [e] := (List.dropLast_append_getLast? e newest).symm
  rw [split] at passes total
  refine ⟨((passesSound_concat _ _).1 passes).1, ?_⟩
  rw [List.map_append, List.sum_append, List.map_singleton, List.sum_singleton] at total
  show l.total - e.credited = (l.passes.dropLast.map PassEntry.credited).sum
  omega

theorem loadStateOf_ne_empty {cfg : LoadRec} {l : Load} (h : l.passes ≠ []) : loadStateOf cfg l ≠ .empty := by
  unfold loadStateOf
  rw [if_neg (by simpa using h)]
  split
  · decide
  · split_ifs <;> decide

theorem loadStateOf_empty (cfg : LoadRec) {l : Load} (h : l.passes = []) : loadStateOf cfg l = .empty := by
  simp [loadStateOf, h]

/-- The load state depends on the pass list, the total and the target only (R102). -/
theorem loadStateOf_congr (cfg : LoadRec) {l m : Load} (passes : l.passes = m.passes) (total : l.total = m.total)
    (target : l.target = m.target) : loadStateOf cfg l = loadStateOf cfg m := by
  simp only [loadStateOf, passes, total, target]

/-! ### The load numbers (R109) -/

theorem numbersFollow_iff_isChain : ∀ l : List Nat, numbersFollow l ↔ l.IsChain fun a b => b = nextLoadNumber a
  | [] => by simp [numbersFollow]
  | [a] => by simp [numbersFollow]
  | a :: b :: rest => by
    rw [numbersFollow, List.isChain_cons_cons, numbersFollow_iff_isChain (b :: rest)]

theorem nextLoadNumber_range {n : Nat} (h : 1 ≤ n ∧ n ≤ 65535) : 1 ≤ nextLoadNumber n ∧ nextLoadNumber n ≤ 65535 := by
  unfold nextLoadNumber; split <;> omega

/-- The number `i` places on, counted round from 65,535 to 1. -/
theorem numbersFollow_getElem {l : List Nat} (h : numbersFollow l) (range : ∀ n ∈ l, 1 ≤ n ∧ n ≤ 65535) :
    ∀ i (lt : i < l.length), l[i] = (l[0] - 1 + i) % 65535 + 1 := by
  rw [numbersFollow_iff_isChain, List.isChain_iff_getElem] at h
  intro i
  induction i with
  | zero =>
    intro lt
    have first := range l[0] (List.getElem_mem lt)
    omega
  | succ i ih =>
    intro lt
    have previous := ih (by omega)
    rw [h i lt, previous]
    unfold nextLoadNumber
    split <;> omega

/-- As many numbers as there are do not repeat. -/
theorem nodup_of_numbersFollow {l : List Nat} (h : numbersFollow l) (range : ∀ n ∈ l, 1 ≤ n ∧ n ≤ 65535)
    (short : l.length ≤ 65535) : l.Nodup := by
  refine List.pairwise_iff_getElem.2 fun i j hi hj lt same => ?_
  rw [numbersFollow_getElem h range i hi, numbersFollow_getElem h range j hj] at same
  omega

theorem State.tallySound_nodup {s : State} (h : s.tallySound) : (s.lq.queue.map fun c => c.load.number).Nodup := by
  obtain ⟨-, short, -, follow, range⟩ := h
  refine (List.nodup_append.1 (nodup_of_numbersFollow follow range ?_)).1
  simp
  omega

/-! ### The open load and the close -/

/-- The open load with a pass list, a total and a target in order, once its state is recomputed (R102). -/
theorem State.openLoadSound_recompute {s : State} (sound : s.lt.load.sound)
    (timer : s.lt.load.passes = [] ↔ s.lt.durationTimer = .stopped) (still : s.lt.load.passes = [] → s.lt.load.duration = 0) :
    s.recomputeLoad.openLoadSound :=
  ⟨Load.sound_of_parts sound rfl rfl, loadStateOf_congr _ rfl rfl rfl, timer, still⟩

theorem closedRecord_sound {s : State} (h : s.openLoadSound) (pass : s.lt.load.passes ≠ []) (c : CloseCause) :
    (closedRecord c s.lt.load).sound := by
  obtain ⟨sound, state, -⟩ := h
  exact ⟨sound, pass, state ▸ loadStateOf_ne_empty pass, rfl⟩

/-- A close of a load that has a pass (R108, R109, R122). -/
theorem State.tallySound_closeLoad {s : State} (h : s.tallySound) (pass : s.lt.load.passes ≠ []) (c : CloseCause) :
    (s.closeLoad c).tallySound := by
  obtain ⟨load, short, records, follow, range⟩ := h
  rw [State.closeLoad_eq]
  have kept : ∃ old, ((s.lq.counted s.lt.load.total).appended (closedRecord c s.lt.load)).queue =
      old ++ [closedRecord c s.lt.load] ∧ old.length < 32 ∧ old <:+ s.lq.queue := by
    refine ⟨if s.lq.queue.length < 32 then s.lq.queue else s.lq.queue.tail, rfl, ?_, ?_⟩
    · split
      · assumption
      · rw [List.length_tail]; omega
    · split
      · exact List.suffix_refl _
      · exact List.tail_suffix _
  obtain ⟨old, queue, room, ⟨gone, suffix⟩⟩ := kept
  refine ⟨⟨⟨⟨by simp [Lt.nextLoad], rfl, by simp [Lt.nextLoad]⟩, rfl⟩, rfl, by simp [Lt.nextLoad], fun _ => rfl⟩, ?_, ?_, ?_, ?_⟩
  · simp [queue]; omega
  · simp only [queue, List.mem_append, List.mem_singleton]
    rintro d (member | rfl)
    · exact records d (by rw [← suffix]; simp [member])
    · exact closedRecord_sound load pass c
  · have numbers : numbersFollow (old.map (fun c => c.load.number) ++ [s.lt.load.number, s.lt.nextNumber]) := by
      rw [numbersFollow_iff_isChain] at follow ⊢
      rw [State.loadNumbers, ← suffix, List.map_append, List.append_assoc] at follow
      exact follow.right_of_append
    show numbersFollow (_ ++ _)
    rw [numbersFollow_iff_isChain] at numbers ⊢
    simp only [queue, List.map_append, List.map_cons, List.map_nil, List.append_assoc, List.cons_append, List.nil_append]
    rw [List.isChain_append_cons_cons] at numbers ⊢
    exact ⟨numbers.1, numbers.2.1, List.isChain_cons_cons.2 ⟨rfl, List.isChain_singleton _⟩⟩
  · have next := range s.lt.nextNumber (by simp [State.loadNumbers])
    intro n member
    simp only [State.loadNumbers, queue, List.map_append, List.map_cons, List.map_nil, List.mem_append, List.mem_cons,
      List.not_mem_nil, or_false] at member
    rcases member with (member | rfl) | rfl | rfl
    · exact range n (by simp only [State.loadNumbers, ← suffix, List.map_append, List.mem_append]; exact Or.inl (Or.inr member))
    · exact range _ (by simp [State.loadNumbers, closedRecord])
    · exact next
    · exact nextLoadNumber_range next

/-- What changes of the tally only the open load and its timer, its number apart, keeps it if the load is sound. -/
theorem State.tallySound_load {s t : State} (h : s.tallySound) (load : t.openLoadSound) (queue : t.lq.queue = s.lq.queue)
    (number : t.lt.load.number = s.lt.load.number) (next : t.lt.nextNumber = s.lt.nextNumber) : t.tallySound := by
  obtain ⟨-, short, records, follow, range⟩ := h
  refine ⟨load, queue ▸ short, queue ▸ records, ?_, ?_⟩ <;> simpa only [State.loadNumbers, queue, number, next]

theorem State.tallySound_makeRoom {s : State} (h : s.tallySound) :
    s.makeRoom.tallySound ∧ s.makeRoom.lt.load.passes.length < 12 := by
  unfold State.makeRoom
  split
  next room => exact ⟨h, room⟩
  next full =>
    have pass : s.lt.load.passes ≠ [] := fun e => by rw [e] at full; exact full (by decide)
    exact ⟨State.tallySound_closeLoad h pass .passLimit, by rw [State.closeLoad_eq]; show 0 < 12; decide⟩

theorem State.tallySound_autoClose {s : State} (h : s.tallySound) : s.autoClose.tallySound := by
  unfold State.autoClose
  split
  next reached =>
    refine State.tallySound_closeLoad h (fun empty => ?_) .target
    have state := h.1.2.1
    rw [loadStateOf_empty _ empty] at state
    simp [state] at reached
  · exact h

/-- A credit (R104). -/
theorem State.tallySound_credit {s : State} (h : s.tallySound) : s.credit.tallySound := by
  unfold State.credit
  split
  · exact h
  next x _ =>
    obtain ⟨roomy, room⟩ := State.tallySound_makeRoom h
    refine State.tallySound_autoClose ?_
    obtain ⟨_, _, _, _, e⟩ := State.announceLoad_frame s.makeRoom.lt.load.state
      ((s.makeRoom.appendPass x).countCredit.raiseBoth .passCredited).recomputeLoad
    rw [e]
    refine State.tallySound_load roomy (State.openLoadSound_recompute
      (s := (s.makeRoom.appendPass x).countCredit.raiseBoth .passCredited) (Load.sound_append roomy.1.1 room x.mass x.flags) ?_ ?_)
      rfl rfl rfl
    · obtain ⟨-, -, timer, -⟩ := roomy.1
      simp only [State.raiseBoth_lt, State.countCredit_lt, State.appendPass, List.append_eq_nil_iff, List.cons_ne_self,
        and_false, false_iff]
      split
      · decide
      next pass => rw [← timer]; simpa using pass
    · simp [State.appendPass]

theorem State.tallySound_undoPass {s : State} (h : s.tallySound) : s.undoPass.tallySound := by
  unfold State.undoPass
  split
  · exact h
  next e newest =>
    obtain ⟨sound, -, timer, -⟩ := h.1
    have pass : s.lt.load.passes ≠ [] := fun empty => by simp [empty] at newest
    refine State.tallySound_load h (State.openLoadSound_recompute
      (s := { s with
        lt.load.passes := s.lt.load.passes.dropLast, lt.load.total := s.lt.load.total - e.credited
        lt.load.duration := if s.lt.load.passes.dropLast.isEmpty then 0 else s.lt.load.duration
        lt.durationTimer := if s.lt.load.passes.dropLast.isEmpty then .stopped else s.lt.durationTimer }) ?_ ?_ ?_) rfl rfl rfl
    · exact Load.sound_of_parts (Load.sound_undo sound newest) rfl rfl
    · dsimp only
      by_cases last : s.lt.load.passes.dropLast = []
      · simp [last]
      · simp [last, ← timer, pass]
    · intro last
      dsimp only at last ⊢
      simp [last]

theorem State.tallySound_takeEvent {s : State} (v : LineEvent) (h : s.tallySound) : (s.takeEvent v).tallySound := by
  cases v
  case tipOff =>
    obtain ⟨_, _, _, _, e⟩ := State.tipOff_frame s
    show s.tipOff.tallySound
    rw [e]; exact h
  case undo => exact State.tallySound_undoPass h
  case nextTruck =>
    show s.nextTruckEvent.tallySound
    unfold State.nextTruckEvent
    split
    · exact h
    next pass => exact State.tallySound_closeLoad h (by simpa using pass) .button
  case discard =>
    obtain ⟨_, _, e⟩ := State.discardPass_frame s
    show s.discardPass.tallySound
    rw [e]; exact h
  case ackMsg =>
    obtain ⟨_, _, e⟩ := State.ackMessage_frame s
    show s.ackMessage.tallySound
    rw [e]; exact h

theorem State.tallySound_dwellExpiry {s : State} (h : s.tallySound) : s.dwellExpiry.tallySound := by
  unfold State.dwellExpiry
  split
  · split
    · unfold State.dumpEntry
      dsimp only
      split
      · exact State.tallySound_credit h
      · exact h
    · exact h
    · exact h
  · exact h

theorem State.tallySound_loadSecond {s : State} (h : s.tallySound) : s.loadSecond.tallySound := by
  unfold State.loadSecond
  split
  next due =>
    obtain ⟨sound, state, timer, -⟩ := h.1
    have running : s.lt.durationTimer ≠ .stopped := fun e => by rw [e] at due; cases due
    have pass : s.lt.load.passes ≠ [] := fun empty => running (timer.1 empty)
    exact State.tallySound_load h
      ⟨Load.sound_of_parts sound rfl rfl, state.trans (loadStateOf_congr _ rfl rfl rfl), by simp [pass], fun empty => absurd empty pass⟩
      rfl rfl rfl
  · exact h

/-- The oldest record leaves the queue (R125). -/
theorem State.tallySound_releaseLoad {s : State} (n : BitVec 16) (h : s.tallySound) :
    (orderReleaseLoad n s).state.tallySound := by
  unfold orderReleaseLoad
  split
  · exact h
  · split
    · exact h
    next c rest queue =>
      split_ifs
      · obtain ⟨load, short, records, follow, range⟩ := h
        rw [queue] at short records
        simp only [State.loadNumbers, queue, List.map_cons, List.cons_append] at follow range
        refine ⟨load, ?_, fun d member => records d (List.mem_cons_of_mem _ member), ?_,
          fun n member => range n (List.mem_cons_of_mem _ member)⟩
        · simp at short ⊢; omega
        · rw [numbersFollow_iff_isChain] at follow
          exact (numbersFollow_iff_isChain _).2 follow.tail
      · exact h
      · exact h

theorem tallySound_blockKept : BlockKept State.tallySound where
  port _ _ _ h := h
  lines _ _ h := h
  strip _ _ h := h
  links _ _ _ _ h := h
  mail _ _ _ _ _ _ h := h
  counters _ _ _ _ _ h := h
  held _ _ h := h
  nextTruck _ _ h := h
  materials _ _ h := h
  idleTimer _ _ h := h
  reset := by
    refine ⟨⟨⟨⟨by decide, rfl, by rintro _ ⟨⟩⟩, rfl⟩, rfl, by simp [State.reset, Lt.reset, Load.reset], fun _ => rfl⟩, by decide,
      by rintro _ ⟨⟩, ⟨rfl, trivial⟩, ?_⟩
    intro n member
    simp [State.loadNumbers, State.reset, Lq.reset, Lt.reset, Load.reset] at member
    omega
  timers s h := State.tallySound_load h
    ⟨h.1.1, h.1.2.1, by simpa [State.tickTimers] using h.1.2.2.1, h.1.2.2.2⟩ rfl rfl rfl
  judge s theta phi h := by
    obtain ⟨_, _, _, _, _, _, _, _, _, e⟩ := State.judgeSample_frame theta phi s
    rw [e]; exact h
  filter _ _ _ _ _ _ _ _ h := h
  loss s h := by
    obtain ⟨_, _, _, _, _, _, _, _, _, e⟩ := State.trackerLoss_frame s
    rw [e]; exact h
  park s b h := by
    obtain ⟨_, _, _, _, _, _, _, _, _, e⟩ := State.parkChange_frame b s
    rw [e]; exact h
  dumpSwitch s a b h := by
    obtain ⟨_, e⟩ := State.dumpSwitchChange_frame a b s
    rw [e]; exact h
  event _ e h := State.tallySound_takeEvent e h
  timeout s h := by
    obtain ⟨_, _, _, _, _, _, _, _, _, e⟩ := State.windowTimeout_frame s
    rw [e]; exact h
  dwell _ h := State.tallySound_dwellExpiry h
  lapse s h := by
    obtain ⟨_, _, _, _, _, e⟩ := State.loseHold_frame s
    rw [e]; exact h
  loadSecond _ h := State.tallySound_loadSecond h
  run s h := by
    obtain ⟨_, _, _, _, e⟩ := orderRun_frame s
    rw [e]; exact h
  stop s h := by
    obtain ⟨_, _, _, _, _, _, _, _, _, e⟩ := orderStop_frame s
    rw [e]; exact h
  setTarget s p w h := by
    unfold orderSetTarget
    split
    · exact h
    · obtain ⟨sound, -, timer, still⟩ := h.1
      obtain ⟨_, _, _, _, e⟩ := State.announceLoad_frame s.lt.load.state
        (State.recomputeLoad { s with lt.load := s.lt.load.withTarget p w })
      dsimp only
      rw [e]
      exact State.tallySound_load h (State.openLoadSound_recompute (s := { s with lt.load := s.lt.load.withTarget p w })
        (Load.sound_of_parts sound rfl rfl) timer still) rfl rfl rfl
  close s c pass h := State.tallySound_closeLoad h (by simpa using pass) c
  releaseLoad _ n h := State.tallySound_releaseLoad n h
  writeWeigh s p w h := by
    obtain ⟨_, _, _, _, _, _, _, e⟩ := orderWriteWeigh_frame p w s
    rw [e]; exact h
  writeCycle s p w h := by
    obtain ⟨_, _, _, _, _, _, _, _, _, e⟩ := orderWriteCycle_frame p w s
    rw [e]; exact h
  writeLoad s w h := by
    unfold orderWriteLoad
    split
    · exact h
    · exact State.tallySound_load h (State.openLoadSound_recompute (s := { s with lt.settings := loadOfWire w })
        h.1.1 h.1.2.2.1 h.1.2.2.2) rfl rfl rfl
  takeHold s p h := by
    obtain ⟨_, _, e⟩ := orderTakeHold_frame p s
    rw [e]; exact h
  calTare s p h := by
    obtain ⟨_, _, _, _, e⟩ := orderCalTare_frame p s
    rw [e]; exact h
  calLoaded s p m h := by
    obtain ⟨_, e⟩ := orderCalLoaded_frame p m s
    rw [e]; exact h
  calZero s p h := by
    obtain ⟨_, _, _, _, _, _, e⟩ := orderCalZero_frame p s
    rw [e]; exact h
  calAbort s p h := by
    obtain ⟨_, _, _, _, _, e⟩ := orderCalAbort_frame p s
    rw [e]; exact h
  writeTable s p w h := by
    obtain ⟨_, e⟩ := orderWriteTable_frame p w s
    rw [e]; exact h

/-- Settles O57: each command keeps the tally, and load numbers that follow one another round 65,535 do not repeat among 34. -/
theorem stepKeepsTally : Obligations.StepKeepsTally := by
  unfold Obligations.StepKeepsTally
  intro s t e h
  have kept : t.tallySound := tallySound_blockKept.kept.step h e
  exact ⟨kept, State.tallySound_nodup kept⟩

end Sys2Proof.Machine
end

section
/-! The lines: level sets bit by bit, the level functions as what R22 says of them, and what handing them on leaves. -/

namespace Sys2Proof.Machine

open Sys2Proof

/-! ### Level sets -/

theorem levelsOf_getLsbD (f : Fin 8 → Bool) (k : Fin 8) : (levelsOf f).getLsbD k.val = f k := by
  unfold levelsOf
  rw [byteOfFlags_getLsbD (by simp [eightIndices])]
  fin_cases k <;> rfl

theorem levels_ext {a b : BitVec 8} (h : ∀ k : Fin 8, a.getLsbD k.val = b.getLsbD k.val) : a = b :=
  BitVec.eq_of_getLsbD_eq fun k lt => h ⟨k, lt⟩

/-- Two level sets have a line in common. -/
theorem levels_meet_iff (a b : BitVec 8) :
    (a &&& b != 0) = true ↔ ∃ k : Fin 8, a.getLsbD k.val = true ∧ b.getLsbD k.val = true := by
  rw [bne_iff_ne, ne_eq, ← not_iff_not, not_not]
  constructor
  · rintro h ⟨k, ha, hb⟩
    have both : (a &&& b).getLsbD k.val = true := by simp [ha, hb]
    simp [h] at both
  · intro h
    refine levels_ext fun k => ?_
    by_contra differ
    refine h ⟨k, ?_⟩
    simpa using differ

theorem levels_ne_zero_iff (a : BitVec 8) : a ≠ 0 ↔ ∃ k : Fin 8, a.getLsbD k.val = true := by
  have meet := levels_meet_iff a a
  rw [BitVec.and_self, bne_iff_ne] at meet
  simpa using meet

theorem LinesRec.lineSet_getLsbD (r : LinesRec) (f : LineFn) (k : Fin 8) :
    (r.lineSet f).getLsbD k.val = true ↔ r.funcs.get k = f := by
  unfold LinesRec.lineSet
  rw [levelsOf_getLsbD, beq_iff_eq]

/-- Some line of the function's set is active (R22). -/
theorem State.lineSet_meets_iff (f : LineFn) (s : State) :
    (s.lm.settings.lineSet f &&& s.lm.active != 0) = true ↔ s.fnActive f := by
  rw [levels_meet_iff]
  simp only [LinesRec.lineSet_getLsbD, Lm.active_getLsbD]
  rfl

theorem Lm.computedLevels_dumpConfigured (m : Lm) :
    m.computedLevels.dumpConfigured = true ↔ ∃ k, m.settings.funcs.get k = .dumpSwitch := by
  show (m.settings.lineSet .dumpSwitch != 0) = true ↔ _
  rw [bne_iff_ne, levels_ne_zero_iff]
  simp only [LinesRec.lineSet_getLsbD]

/-- The lines that a due update turns are those of `lineTurns` (R18). -/
theorem Lm.changing_getLsbD (s : State) (k : Fin 8) : s.lm.changing.getLsbD k.val = true ↔ s.lineTurns k := by
  unfold Lm.changing
  rw [levelsOf_getLsbD]
  rw [Bool.and_eq_true, bne_iff_ne, decide_eq_true_iff]
  rfl

/-! ### Handing the levels on (R22) -/

/-- What CT keeps of the machine lines. -/
structure Ct.Hears (c : Ct) (l : FnLevels) : Prop where
  park : c.park = l.park
  dumpSwitch : c.dumpSwitch = l.dumpSwitch
  dumpConfigured : c.dumpConfigured = l.dumpConfigured

/-- A weigh abort leaves what CT keeps of the lines. -/
theorem State.abortIfWeighing_lines (c : AbortCause) (s : State) :
    (s.abortIfWeighing c).ct.park = s.ct.park ∧ (s.abortIfWeighing c).ct.dumpSwitch = s.ct.dumpSwitch
      ∧ (s.abortIfWeighing c).ct.dumpConfigured = s.ct.dumpConfigured := by
  by_cases weighing : s.ct.tracker = .weighing
  · rw [State.abortIfWeighing_weighing weighing, State.abortWeigh_eq]; exact ⟨rfl, rfl, rfl⟩
  · rw [State.abortIfWeighing_other weighing]; exact ⟨rfl, rfl, rfl⟩

theorem State.parkChange_lines (b : Bool) (s : State) :
    (s.parkChange b).ct.park = b ∧ (s.parkChange b).ct.dumpSwitch = s.ct.dumpSwitch
      ∧ (s.parkChange b).ct.dumpConfigured = s.ct.dumpConfigured := by
  unfold State.parkChange
  dsimp only
  split
  · exact State.abortIfWeighing_lines .park { s with ct.park := b }
  · exact ⟨rfl, rfl, rfl⟩

theorem State.dumpSwitchChange_lines (a b : Bool) (s : State) :
    (s.dumpSwitchChange a b).ct.park = s.ct.park ∧ (s.dumpSwitchChange a b).ct.dumpSwitch = a
      ∧ (s.dumpSwitchChange a b).ct.dumpConfigured = b := by
  unfold State.dumpSwitchChange
  dsimp only
  split
  · split
    · exact ⟨rfl, rfl, rfl⟩
    · exact ⟨rfl, rfl, rfl⟩
    · unfold State.judgeDumping
      split <;> exact ⟨rfl, rfl, rfl⟩
    · exact ⟨rfl, rfl, rfl⟩
  · exact ⟨rfl, rfl, rfl⟩

/-- LM keeps the level functions that follow from its levels and settings. -/
theorem State.handLevels_lm (s : State) : s.handLevels.lm = { s.lm with levels := s.lm.computedLevels } := by
  have parked : ∀ (t : State) b, (t.parkChange b).lm = t.lm := fun t b => by
    obtain ⟨_, _, _, _, _, _, _, _, _, e⟩ := State.parkChange_frame b t
    rw [e]
  have switched : ∀ (t : State) a b, (t.dumpSwitchChange a b).lm = t.lm := fun t a b => by
    obtain ⟨_, e⟩ := State.dumpSwitchChange_frame a b t
    rw [e]
  unfold State.handLevels
  dsimp only
  split_ifs <;> simp only [parked, switched]

/-- The receivers record the level functions, if they had those of before (R22). -/
theorem State.handLevels_hears {s : State} (h : s.ct.Hears s.lm.levels) (lights : s.sd.lights = s.lm.levels.lights) :
    s.handLevels.ct.Hears s.lm.computedLevels ∧ s.handLevels.sd.lights = s.lm.computedLevels.lights := by
  obtain ⟨hearsPark, hearsSwitch, hearsConfigured⟩ := h
  have handedPark : ∀ t : State, t = (if s.lm.computedLevels.park = s.lm.levels.park then
        { s with lm.levels := s.lm.computedLevels }
      else State.parkChange s.lm.computedLevels.park { s with lm.levels := s.lm.computedLevels }) →
      t.ct.park = s.lm.computedLevels.park ∧ t.ct.dumpSwitch = s.lm.levels.dumpSwitch
        ∧ t.ct.dumpConfigured = s.lm.levels.dumpConfigured ∧ t.sd.lights = s.lm.levels.lights := by
    rintro t rfl
    split
    next same => exact ⟨hearsPark.trans same.symm, hearsSwitch, hearsConfigured, lights⟩
    · obtain ⟨park, switch, configured⟩ :=
        State.parkChange_lines s.lm.computedLevels.park { s with lm.levels := s.lm.computedLevels }
      refine ⟨park, switch.trans hearsSwitch, configured.trans hearsConfigured, ?_⟩
      obtain ⟨_, _, _, _, _, _, _, _, _, e⟩ :=
        State.parkChange_frame s.lm.computedLevels.park { s with lm.levels := s.lm.computedLevels }
      rw [e]; exact lights
  unfold State.handLevels
  dsimp only
  obtain ⟨park, switch, configured, lit⟩ := handedPark _ rfl
  generalize (if s.lm.computedLevels.park = s.lm.levels.park then _ else _ : State) = t at park switch configured lit ⊢
  have handedSwitch : ∀ u : State, u = (if s.lm.computedLevels.dumpSwitch = s.lm.levels.dumpSwitch
        ∧ s.lm.computedLevels.dumpConfigured = s.lm.levels.dumpConfigured then t
      else t.dumpSwitchChange s.lm.computedLevels.dumpSwitch s.lm.computedLevels.dumpConfigured) →
      u.ct.Hears s.lm.computedLevels ∧ u.sd.lights = s.lm.levels.lights := by
    rintro u rfl
    split
    next same => exact ⟨⟨park, switch.trans same.1.symm, configured.trans same.2.symm⟩, lit⟩
    · obtain ⟨park', switch', configured'⟩ :=
        State.dumpSwitchChange_lines s.lm.computedLevels.dumpSwitch s.lm.computedLevels.dumpConfigured t
      refine ⟨⟨park'.trans park, switch', configured'⟩, ?_⟩
      obtain ⟨_, e⟩ := State.dumpSwitchChange_frame s.lm.computedLevels.dumpSwitch s.lm.computedLevels.dumpConfigured t
      rw [e]; exact lit
  obtain ⟨hears, lit⟩ := handedSwitch _ rfl
  split
  next same => exact ⟨hears, lit.trans same.symm⟩
  · exact ⟨hears, rfl⟩

end Sys2Proof.Machine
end

section
/-! Every step keeps the bounded buffers within their bounds, the port text layer canonical with the windows inside it, and the
level functions those of R22 with their receivers' copies (Table 0-2, R15, R22, R52, R148, R150 to R152). -/

namespace Sys2Proof.Machine

open Sys2Proof

/-! ### The level functions -/

/-- What the receivers hold of the level functions, and the range of the difference counts: what a tick starts from. -/
def State.copiesSound (s : State) : Prop :=
  s.ct.Hears s.lm.levels ∧ s.sd.lights = s.lm.levels.lights ∧ ∀ k, s.lm.diff.get k ≤ 25

theorem FnLevels.eq_iff (l m : FnLevels) :
    l = m ↔ (l.park = true ↔ m.park = true) ∧ (l.dumpSwitch = true ↔ m.dumpSwitch = true)
      ∧ (l.lights = true ↔ m.lights = true) ∧ (l.dumpConfigured = true ↔ m.dumpConfigured = true) := by
  constructor
  · rintro rfl
    simp
  · cases l; cases m
    rintro ⟨park, switch, lights, configured⟩
    rw [FnLevels.mk.injEq]
    exact ⟨Bool.eq_iff_iff.2 park, Bool.eq_iff_iff.2 switch, Bool.eq_iff_iff.2 lights, Bool.eq_iff_iff.2 configured⟩

theorem State.linesSound_iff (s : State) : s.linesSound ↔ s.lm.levels = s.lm.computedLevels ∧ s.copiesSound := by
  have computed : s.lm.levels = s.lm.computedLevels ↔
      (s.lm.levels.park = true ↔ s.fnActive .park) ∧ (s.lm.levels.dumpSwitch = true ↔ s.fnActive .dumpSwitch)
        ∧ (s.lm.levels.lights = true ↔ s.fnActive .lights)
        ∧ (s.lm.levels.dumpConfigured = true ↔ ∃ k, s.lm.settings.funcs.get k = .dumpSwitch) := by
    rw [← Lm.computedLevels_dumpConfigured, ← State.lineSet_meets_iff, ← State.lineSet_meets_iff, ← State.lineSet_meets_iff]
    exact FnLevels.eq_iff _ _
  rw [computed]
  constructor
  · rintro ⟨park, switch, lights, configured, ⟨a, b, c, d⟩, diff⟩
    exact ⟨⟨park, switch, lights, configured⟩, ⟨a, b, c⟩, d, diff⟩
  · rintro ⟨⟨park, switch, lights, configured⟩, ⟨a, b, c⟩, d, diff⟩
    exact ⟨park, switch, lights, configured, ⟨a, b, c, d⟩, diff⟩

theorem State.linesSound_handLevels {s : State} (h : s.copiesSound) : s.handLevels.linesSound := by
  obtain ⟨hears, lights, diff⟩ := h
  obtain ⟨heard, lit⟩ := State.handLevels_hears hears lights
  rw [State.linesSound_iff]
  unfold State.copiesSound
  rw [State.handLevels_lm]
  exact ⟨rfl, heard, lit, diff⟩

/-- From `s` to `t` the lines stay, and so do their receivers' copies. -/
structure State.LinesKept (s t : State) : Prop where
  lm : t.lm.levels = s.lm.levels ∧ t.lm.debounced = s.lm.debounced ∧ t.lm.settings = s.lm.settings ∧ t.lm.diff = s.lm.diff
  ct : t.ct.park = s.ct.park ∧ t.ct.dumpSwitch = s.ct.dumpSwitch ∧ t.ct.dumpConfigured = s.ct.dumpConfigured
  sd : t.sd.lights = s.sd.lights

theorem State.LinesKept.sound {s t : State} (k : s.LinesKept t) (h : s.linesSound) : t.linesSound := by
  obtain ⟨⟨levels, debounced, settings, diff⟩, ⟨park, switch, configured⟩, lights⟩ := k
  have active : ∀ f, t.fnActive f ↔ s.fnActive f := fun f => by
    simp only [State.fnActive, State.lineActive, debounced, settings]
  simpa only [State.linesSound, active, levels, settings, diff, park, switch, configured, lights] using h

theorem State.LinesKept.refl (s : State) : s.LinesKept s := ⟨⟨rfl, rfl, rfl, rfl⟩, ⟨rfl, rfl, rfl⟩, rfl⟩

theorem State.LinesKept.trans {s t u : State} (k : s.LinesKept t) (l : t.LinesKept u) : s.LinesKept u := by
  obtain ⟨⟨a, b, c, d⟩, ⟨e, f, g⟩, h⟩ := k
  obtain ⟨⟨a', b', c', d'⟩, ⟨e', f', g'⟩, h'⟩ := l
  exact ⟨⟨a'.trans a, b'.trans b, c'.trans c, d'.trans d⟩, ⟨e'.trans e, f'.trans f, g'.trans g⟩, h'.trans h⟩

theorem State.linesKept_lowEntry (s : State) : s.LinesKept s.lowEntry := by
  rw [State.lowEntry_eq]
  obtain ⟨_, _, _, _, _, e⟩ := State.applyWeigh_frame (s.we.pendingWeigh.getD s.we.weigh) { s with ct := s.ct.lowEntered }
  rw [e]; exact ⟨⟨rfl, rfl, rfl, rfl⟩, ⟨rfl, rfl, rfl⟩, rfl⟩

theorem State.linesKept_abortWeigh (c : AbortCause) (s : State) : s.LinesKept (s.abortWeigh c) := by
  obtain ⟨_, _, _, _, _, e⟩ := State.abortWeigh_frame c s
  rw [e]; exact ⟨⟨rfl, rfl, rfl, rfl⟩, ⟨rfl, rfl, rfl⟩, rfl⟩

theorem State.linesKept_abortIfWeighing (c : AbortCause) (s : State) : s.LinesKept (s.abortIfWeighing c) := by
  obtain ⟨_, _, _, _, _, _, _, _, _, e⟩ := State.abortIfWeighing_frame c s
  refine ⟨?_, State.abortIfWeighing_lines c s, ?_⟩ <;> rw [e]
  exact ⟨rfl, rfl, rfl, rfl⟩

theorem State.linesKept_completeWindow (s : State) : s.LinesKept s.completeWindow := by
  obtain ⟨-, -, ct, -⟩ := State.completeWindow_closes s
  obtain ⟨_, _, _, _, _, _, _, _, _, e⟩ := State.completeWindow_frame s
  rw [State.abortWeigh_eq] at ct
  refine ⟨?_, ?_, ?_⟩
  · rw [e]; exact ⟨rfl, rfl, rfl, rfl⟩
  · rcases ct with ct | ct <;> rw [ct] <;> exact ⟨rfl, rfl, rfl⟩
  · rw [e]

theorem State.linesKept_judgeSample (theta phi : Int) (s : State) : s.LinesKept (s.judgeSample theta phi) := by
  have low := State.linesKept_lowEntry s
  have up : s.LinesKept (s.takeUpBoom theta) := by
    unfold State.takeUpBoom
    split
    · exact low
    · exact ⟨⟨rfl, rfl, rfl, rfl⟩, ⟨rfl, rfl, rfl⟩, rfl⟩
  have carried : s.LinesKept (s.judgeCarried theta phi) := by
    unfold State.judgeCarried
    split
    · exact low
    · exact ⟨⟨rfl, rfl, rfl, rfl⟩, ⟨rfl, rfl, rfl⟩, rfl⟩
  unfold State.judgeSample
  split
  · exact .refl s
  · exact up
  · split
    · exact .refl s
    · exact up
  · unfold State.judgeLow
    split <;> exact ⟨⟨rfl, rfl, rfl, rfl⟩, ⟨rfl, rfl, rfl⟩, rfl⟩
  · unfold State.judgeLifting
    split_ifs
    · exact low
    all_goals exact ⟨⟨rfl, rfl, rfl, rfl⟩, ⟨rfl, rfl, rfl⟩, rfl⟩
  · unfold State.judgeWeighing
    split_ifs
    · exact .trans (t := { s with ct.tracker := .raised, ct.windowTimer := .stopped, ct.highTheta := none }) (⟨⟨rfl, rfl, rfl, rfl⟩, ⟨rfl, rfl, rfl⟩, rfl⟩)
        (State.linesKept_completeWindow _)
    · exact .trans (State.linesKept_abortWeigh .lowered s) (⟨⟨rfl, rfl, rfl, rfl⟩, ⟨rfl, rfl, rfl⟩, rfl⟩)
    · exact ⟨⟨rfl, rfl, rfl, rfl⟩, ⟨rfl, rfl, rfl⟩, rfl⟩
  · exact carried
  · exact carried
  · unfold State.judgeDumping
    split <;> exact ⟨⟨rfl, rfl, rfl, rfl⟩, ⟨rfl, rfl, rfl⟩, rfl⟩

theorem State.linesKept_trackerLoss (s : State) : s.LinesKept s.trackerLoss := by
  unfold State.trackerLoss
  split
  · exact .trans (State.linesKept_abortIfWeighing .sensorLost s) (⟨⟨rfl, rfl, rfl, rfl⟩, ⟨rfl, rfl, rfl⟩, rfl⟩)
  · exact .refl s

theorem State.linesKept_trackerStop (s : State) : s.LinesKept s.trackerStop := by
  unfold State.trackerStop
  split
  · exact .refl s
  · exact .trans (State.linesKept_abortIfWeighing .stopped s) (⟨⟨rfl, rfl, rfl, rfl⟩, ⟨rfl, rfl, rfl⟩, rfl⟩)

theorem State.linesKept_windowTimeout (s : State) : s.LinesKept s.windowTimeout := by
  unfold State.windowTimeout
  split
  · exact .trans (State.linesKept_abortIfWeighing .timeout s) (⟨⟨rfl, rfl, rfl, rfl⟩, ⟨rfl, rfl, rfl⟩, rfl⟩)
  · exact .refl s

theorem State.linesKept_dwellExpiry (s : State) : s.LinesKept s.dwellExpiry := by
  unfold State.dwellExpiry
  split
  · split
    · unfold State.dumpEntry
      dsimp only
      split
      · obtain ⟨_, _, _, _, _, _, _, _, _, _, _, e⟩ := State.credit_frame (State.countCycle s.ct.cycleTime { s with
          ct := { s.ct with
            tracker := .dumping, dwellTimer := .stopped, cycleRef := .counting 0, latestCycle := some s.ct.cycleTime } })
        rw [e]; exact ⟨⟨rfl, rfl, rfl, rfl⟩, ⟨rfl, rfl, rfl⟩, rfl⟩
      · exact ⟨⟨rfl, rfl, rfl, rfl⟩, ⟨rfl, rfl, rfl⟩, rfl⟩
    · exact ⟨⟨rfl, rfl, rfl, rfl⟩, ⟨rfl, rfl, rfl⟩, rfl⟩
    · exact ⟨⟨rfl, rfl, rfl, rfl⟩, ⟨rfl, rfl, rfl⟩, rfl⟩
  · exact ⟨⟨rfl, rfl, rfl, rfl⟩, ⟨rfl, rfl, rfl⟩, rfl⟩

theorem State.linesKept_trackerRun (s : State) : s.LinesKept s.trackerRun := by
  unfold State.trackerRun
  split <;> exact ⟨⟨rfl, rfl, rfl, rfl⟩, ⟨rfl, rfl, rfl⟩, rfl⟩

theorem State.linesSound_lineTick {s : State} (raw : BitVec 8) (h : s.linesSound) : (s.lineTick raw).linesSound := by
  obtain ⟨levels, ⟨park, switch, configured⟩, lights, -⟩ := (State.linesSound_iff s).1 h
  unfold State.lineTick
  dsimp only
  split
  · rw [State.linesSound_iff]
    refine ⟨levels, ⟨park, switch, configured⟩, lights, fun k => ?_⟩
    show (Eight.tabulate (s.lm.diffAfter raw)).get k ≤ 25
    rw [Eight.get_tabulate]
    unfold Lm.diffAfter
    split
    · omega
    · exact min_le_left _ _
  · exact State.linesSound_handLevels ⟨⟨park, switch, configured⟩, lights, fun k => by simp [Lm.firstSample]⟩

theorem State.linesSound_lineUpdate {s : State} (h : s.linesSound) : s.lineUpdate.linesSound := by
  obtain ⟨-, hears, lights, diff⟩ := (State.linesSound_iff s).1 h
  unfold State.lineUpdate
  dsimp only
  split
  · refine State.evaluateWatches_keeps (State.takeEvents_keeps ?_ (fun _ _ h => h) _ _
      (State.linesSound_handLevels (s := { s with lm := s.lm.update }) ⟨hears, lights, fun k => ?_⟩)) (fun _ _ _ h => h) _ _
    · intro t e h
      obtain ⟨_, _, _, _, _, _, _, _, _, _, _, _, e⟩ := State.takeEvent_frame e t
      rw [e]; exact h
    · simp only [Lm.update, Eight.get_tabulate]
      split
      · omega
      · exact diff k
  · exact h

theorem State.linesSound_applyLines {s : State} (r : LinesRec) (h : s.linesSound) : (s.applyLines r).linesSound := by
  obtain ⟨-, copies⟩ := (State.linesSound_iff s).1 h
  have handed := State.linesSound_handLevels (s := { s with lm.settings := r }) copies
  unfold State.applyLines
  dsimp only
  split
  · exact handed
  · exact State.evaluateWatches_keeps handed (fun _ _ _ h => h) _ _

theorem linesSound_reset : State.reset.linesSound :=
  (State.linesSound_iff _).2 ⟨by decide, ⟨rfl, rfl, rfl⟩, rfl, by decide⟩

theorem linesSound_kept : Kept State.linesSound where
  ports _ _ h := h
  mail _ _ _ _ _ h := h
  notices _ _ _ h := h
  idleTimer _ _ h := h
  queue _ _ h := h
  reset _ := linesSound_reset
  release s h := by unfold State.resetRelease; split <;> exact h
  frame s bits h := State.receiveFrame_keeps h (fun _ _ _ _ h => h)
    (fun t theta phi => (State.linesKept_judgeSample theta phi t).sound) (fun _ _ _ h => h) bits
  pulse s h := by
    obtain ⟨_, _, _, e⟩ := State.pacePulse_frame s
    rw [e]; exact h
  loss s h := by
    unfold State.sampleLoss
    split
    · exact (State.linesKept_trackerLoss _).sound (by exact h)
    · exact h
  tick _ raw h := State.linesSound_lineTick raw h
  update _ h := State.linesSound_lineUpdate h
  timeout s := (State.linesKept_windowTimeout s).sound
  dwell s := (State.linesKept_dwellExpiry s).sound
  lapse s h := by
    obtain ⟨_, _, _, _, _, _, _, e⟩ := State.holdLapse_frame s
    rw [e]; exact h
  strip _ _ _ _ _ h := h
  blink _ _ _ h := h
  advisory s h := by
    obtain ⟨_, _, _, e⟩ := State.advisoryExpiry_frame s
    rw [e]; exact h
  loadSecond s h := by unfold State.loadSecond; split <;> exact h
  shiftSecond s h := by
    obtain ⟨_, _, e⟩ := State.shiftSecond_frame s
    rw [e]; exact h
  run s h := by
    obtain ⟨_, _, _, e⟩ := State.samplingRun_frame s
    refine (State.linesKept_trackerRun s.samplingRun).sound ?_
    rw [e]; exact h
  stop s h := by
    obtain ⟨_, e⟩ := State.samplingStop_frame s.trackerStop
    show s.trackerStop.samplingStop.linesSound
    rw [e]; exact (State.linesKept_trackerStop s).sound h
  setTarget s p w h := by
    obtain ⟨_, _, _, _, _, e⟩ := orderSetTarget_frame p w s
    rw [e]; exact h
  setNext _ _ h := h
  closeLoad s h := by
    obtain ⟨_, _, _, _, _, _, _, _, _, _, e⟩ := orderCloseLoad_frame s
    rw [e]; exact h
  releaseLoad s n h := by
    obtain ⟨_, e⟩ := orderReleaseLoad_frame n s
    rw [e]; exact h
  shiftEnd s h := by
    obtain ⟨_, _, _, _, _, _, _, _, _, _, _, _, _, e⟩ := orderShiftEnd_frame s
    rw [e]; exact h
  writeSample s r h := by
    obtain ⟨_, e⟩ := orderWriteSample_frame r s
    rw [e]; exact h
  writeWeigh s p w h := by
    obtain ⟨_, _, _, _, _, _, _, e⟩ := orderWriteWeigh_frame p w s
    rw [e]; exact h
  writeCycle s p w h := by
    obtain ⟨_, _, _, _, _, _, _, _, _, e⟩ := orderWriteCycle_frame p w s
    rw [e]; exact h
  writeLoad s w h := by
    obtain ⟨_, _, e⟩ := orderWriteLoad_frame w s
    rw [e]; exact h
  writeLines s w h := by
    unfold orderWriteLines
    split
    · exact h
    · exact State.linesSound_applyLines _ h
  writeStrip _ _ h := h
  writeMaterial _ _ h := h
  takeHold s p h := by
    obtain ⟨_, _, e⟩ := orderTakeHold_frame p s
    rw [e]; exact h
  dropHold s p h := by
    obtain ⟨_, _, _, _, _, _, _, e⟩ := orderDropHold_frame p s
    rw [e]; exact h
  calTare s p h := by
    obtain ⟨_, _, _, _, e⟩ := orderCalTare_frame p s
    rw [e]; exact h
  calLoaded s p m h := by
    obtain ⟨_, e⟩ := orderCalLoaded_frame p m s
    rw [e]; exact h
  calZero s p h := by
    obtain ⟨_, _, _, _, _, _, e⟩ := orderCalZero_frame p s
    rw [e]; exact h
  calAbort s p h := by
    obtain ⟨_, _, _, _, _, e⟩ := orderCalAbort_frame p s
    rw [e]; exact h
  writeTable s p w h := by
    obtain ⟨_, e⟩ := orderWriteTable_frame p w s
    rw [e]; exact h
  watch _ _ h := h
  traceArm s p m h := by
    obtain ⟨_, e⟩ := orderTraceArm_frame p m s
    rw [e]; exact h
  traceRead s p n h := by
    obtain ⟨_, e⟩ := orderTraceRead_frame p n s
    rw [e]; exact h
  openWindow s p w h := by
    obtain ⟨_, e⟩ := orderOpenWindow_frame p w s
    rw [e]; exact h
  putText s p cs h := by
    obtain ⟨_, _, e⟩ := orderPutText_frame p cs s
    rw [e]; exact h
  setStrip _ _ h := h
  linkReset s p h := by
    obtain ⟨_, _, _, _, _, _, _, _, _, _, e⟩ := orderLinkReset_frame p s
    rw [e]; exact h

/-! ### The port text layer and its windows (R150 to R152) -/

theorem State.stripSound_window {s : State} (h : s.stripSound) (p : Port) {w : Option Window} {m : List Host.Cell}
    (text : textWf m = true) (window : ∀ v, w = some v → v.sound) :
    State.stripSound { s with sd.windows := s.sd.windows.set p w, sd.text := m } := by
  refine ⟨text, fun q v open_ => ?_⟩
  simp only [PerPort.get_set] at open_
  split at open_
  · exact window v open_
  · exact h.2 q v open_

/-- A window that OPEN_WINDOW accepts has its counter inside it, and itself inside the layer (R151). -/
theorem windowOfWire_sound {f : WindowWire} (h : windowFirstBad f = none) : (windowOfWire f).sound := by
  unfold windowFirstBad at h
  rw [firstFailing_eq_none] at h
  simp only [List.mem_cons, forall_eq_or_imp, natInRange_iff] at h
  obtain ⟨-, ce, -, re, -⟩ := h
  exact ⟨le_refl _, ce.1, ce.2, le_refl _, re.1, re.2⟩

theorem State.stripSound_openWindow {s : State} (p : Port) (w : WindowWire) (h : s.stripSound) :
    (orderOpenWindow p w s).state.stripSound := by
  unfold orderOpenWindow
  split
  · exact h
  next good => exact State.stripSound_window h p h.1 (by rintro _ ⟨⟩; exact windowOfWire_sound good)

theorem State.stripSound_putText {s : State} (p : Port) (cs : List Byte) (h : s.stripSound) :
    (orderPutText p cs s).state.stripSound := by
  unfold orderPutText
  split
  · exact h
  next w window =>
    obtain ⟨sound, text⟩ := writeChars_sound cs (h.2 p w window) h.1
    exact State.stripSound_window h p text (by rintro _ ⟨⟩; exact sound)

theorem stripSound_reset : State.reset.stripSound := ⟨rfl, fun p w open_ => by cases p <;> cases open_⟩

theorem stripSound_kept : Kept State.stripSound where
  ports _ _ h := h
  mail _ _ _ _ _ h := h
  notices _ _ _ h := h
  idleTimer _ _ h := h
  queue _ _ h := h
  reset _ := stripSound_reset
  release s h := by unfold State.resetRelease; split <;> exact h
  frame s bits h := by
    obtain ⟨_, _, _, _, _, _, _, _, _, _, e⟩ := State.receiveFrame_frame bits s
    rw [e]; exact h
  pulse s h := by
    obtain ⟨_, _, _, e⟩ := State.pacePulse_frame s
    rw [e]; exact h
  loss s h := by
    obtain ⟨_, _, _, _, _, _, _, _, _, e⟩ := State.sampleLoss_frame s
    rw [e]; exact h
  tick s raw h := by
    unfold State.lineTick
    dsimp only
    split
    · exact h
    · obtain ⟨_, _, _, _, _, _, _, _, _, _, _, e⟩ := State.handLevels_frame
        { s.tickTimers with lm := s.tickTimers.lm.firstSample raw }
      rw [e]; exact h
  update s h := by
    obtain ⟨_, _, _, _, _, _, _, _, _, _, _, _, _, _, _, e⟩ := State.lineUpdate_frame s
    rw [e]; exact h
  timeout s h := by
    obtain ⟨_, _, _, _, _, _, _, _, _, e⟩ := State.windowTimeout_frame s
    rw [e]; exact h
  dwell s h := by
    obtain ⟨_, _, _, _, _, _, _, _, _, _, _, _, e⟩ := State.dwellExpiry_frame s
    rw [e]; exact h
  lapse s h := by
    obtain ⟨_, _, _, _, _, _, _, e⟩ := State.holdLapse_frame s
    rw [e]; exact h
  strip _ _ _ _ _ h := h
  blink _ _ _ h := h
  advisory s h := by
    obtain ⟨_, _, _, e⟩ := State.advisoryExpiry_frame s
    rw [e]; exact h
  loadSecond s h := by unfold State.loadSecond; split <;> exact h
  shiftSecond s h := by
    obtain ⟨_, _, e⟩ := State.shiftSecond_frame s
    rw [e]; exact h
  run s h := by
    obtain ⟨_, _, _, _, e⟩ := orderRun_frame s
    rw [e]; exact h
  stop s h := by
    obtain ⟨_, _, _, _, _, _, _, _, _, e⟩ := orderStop_frame s
    rw [e]; exact h
  setTarget s p w h := by
    obtain ⟨_, _, _, _, _, e⟩ := orderSetTarget_frame p w s
    rw [e]; exact h
  setNext _ _ h := h
  closeLoad s h := by
    obtain ⟨_, _, _, _, _, _, _, _, _, _, e⟩ := orderCloseLoad_frame s
    rw [e]; exact h
  releaseLoad s n h := by
    obtain ⟨_, e⟩ := orderReleaseLoad_frame n s
    rw [e]; exact h
  shiftEnd s h := by
    obtain ⟨_, _, _, _, _, _, _, _, _, _, _, _, _, e⟩ := orderShiftEnd_frame s
    rw [e]; exact h
  writeSample s r h := by
    obtain ⟨_, e⟩ := orderWriteSample_frame r s
    rw [e]; exact h
  writeWeigh s p w h := by
    obtain ⟨_, _, _, _, _, _, _, e⟩ := orderWriteWeigh_frame p w s
    rw [e]; exact h
  writeCycle s p w h := by
    obtain ⟨_, _, _, _, _, _, _, _, _, e⟩ := orderWriteCycle_frame p w s
    rw [e]; exact h
  writeLoad s w h := by
    obtain ⟨_, _, e⟩ := orderWriteLoad_frame w s
    rw [e]; exact h
  writeLines s w h := by
    obtain ⟨_, _, _, _, _, _, _, _, _, _, _, e⟩ := orderWriteLines_frame w s
    rw [e]; exact h
  writeStrip _ _ h := h
  writeMaterial _ _ h := h
  takeHold s p h := by
    obtain ⟨_, _, e⟩ := orderTakeHold_frame p s
    rw [e]; exact h
  dropHold s p h := by
    obtain ⟨_, _, _, _, _, _, _, e⟩ := orderDropHold_frame p s
    rw [e]; exact h
  calTare s p h := by
    obtain ⟨_, _, _, _, e⟩ := orderCalTare_frame p s
    rw [e]; exact h
  calLoaded s p m h := by
    obtain ⟨_, e⟩ := orderCalLoaded_frame p m s
    rw [e]; exact h
  calZero s p h := by
    obtain ⟨_, _, _, _, _, _, e⟩ := orderCalZero_frame p s
    rw [e]; exact h
  calAbort s p h := by
    obtain ⟨_, _, _, _, _, e⟩ := orderCalAbort_frame p s
    rw [e]; exact h
  writeTable s p w h := by
    obtain ⟨_, e⟩ := orderWriteTable_frame p w s
    rw [e]; exact h
  watch _ _ h := h
  traceArm s p m h := by
    obtain ⟨_, e⟩ := orderTraceArm_frame p m s
    rw [e]; exact h
  traceRead s p n h := by
    obtain ⟨_, e⟩ := orderTraceRead_frame p n s
    rw [e]; exact h
  openWindow _ p w h := State.stripSound_openWindow p w h
  putText _ p cs h := State.stripSound_putText p cs h
  setStrip _ _ h := h
  linkReset s p h := by
    obtain ⟨_, _, _, _, _, _, _, _, _, _, e⟩ := orderLinkReset_frame p s
    rw [e]; exact State.stripSound_window h p h.1 (by rintro _ ⟨⟩)

/-! ### The bounded buffers, block by block -/

/-- SP within its bounds. -/
def Sp.Bounded (p : Sp) : Prop :=
  p.trace.sound ∧ p.heldAngle ≤ 4 ∧ p.cleanRun ≤ 10 ∧ p.gapCount ≤ 65535 ∧ p.frameErrors ≤ 65535

/-- The advisory queue within its bounds, its hold timer running exactly while it shows one. -/
def Sd.Bounded (d : Sd) : Prop := d.advisories.length ≤ 4 ∧ (d.advisories = [] ↔ d.holdTimer = .stopped)

/-- The four blocks with bounded buffers. -/
structure State.Bounded (s : State) : Prop where
  sp : s.sp.Bounded
  we : s.we.history.length ≤ 8
  sd : s.sd.Bounded
  lq : s.lq.counters.sound

theorem State.buffersSound_iff (s : State) : s.buffersSound ↔ s.Bounded := by
  constructor
  · rintro ⟨trace, history, short, timer, ⟨held, clean, gap, frames⟩, counters⟩
    exact ⟨⟨trace, held, clean, gap, frames⟩, history, ⟨short, timer⟩, counters⟩
  · rintro ⟨⟨trace, held, clean, gap, frames⟩, history, ⟨short, timer⟩, counters⟩
    exact ⟨trace, history, short, timer, ⟨held, clean, gap, frames⟩, counters⟩

theorem Sd.Bounded.advised {d : Sd} (h : d.Bounded) (x : Advisory) : (d.advised x).Bounded := by
  obtain ⟨short, timer⟩ := h
  refine ⟨le_trans (length_withAdvisory_le x d.advisories) (by omega), ?_⟩
  simp only [Sd.advised, withAdvisory_ne_nil, false_iff]
  split
  · decide
  next shown => rwa [← timer]

theorem Trace.sound_ended {t : Trace} (h : t.sound) : Trace.sound { t with mode := t.mode.ended } := by
  obtain ⟨short, drops, unowned, waiting, recording, lift⟩ := h
  unfold TraceMode.ended
  split
  next mode =>
    exact ⟨short, drops, fun free => by simp [unowned free] at mode, by rintro ⟨⟩, by rintro ⟨⟩, fun _ _ => lift _ mode⟩
  · exact ⟨short, drops, unowned, waiting, recording, lift⟩

theorem Sp.Bounded.ended {p : Sp} (h : p.Bounded) : Sp.Bounded { p with trace.mode := p.trace.mode.ended } :=
  ⟨Trace.sound_ended h.1, h.2⟩

/-! ### Notices, advisories and calibrations keep the bounds -/

theorem State.Bounded.abandonCal {s : State} (h : s.Bounded) (c : CalCause) : (s.abandonCal c).Bounded := by
  by_cases idle : s.cu.cal = .idle
  · rwa [State.abandonCal_idle idle]
  · rw [State.abandonCal_running idle]; exact ⟨h.sp, h.we, h.sd.advised _, h.lq⟩

theorem State.Bounded.applyWeigh {s : State} (h : s.Bounded) (r : WeighRec) : (s.applyWeigh r).Bounded := by
  cases same : s.we.weigh.sameGeometry r
  · rw [State.applyWeigh_other same, State.geometryChange_eq]
    exact State.Bounded.abandonCal (by exact ⟨h.sp, h.we, h.sd, h.lq⟩) _
  · rw [State.applyWeigh_same same]; exact ⟨h.sp, h.we, h.sd, h.lq⟩

theorem State.Bounded.lowEntry {s : State} (h : s.Bounded) : s.lowEntry.Bounded := by
  rw [State.lowEntry_eq]
  exact State.Bounded.applyWeigh (by exact ⟨h.sp, h.we, h.sd, h.lq⟩) _

theorem State.Bounded.calFail {s : State} (h : s.Bounded) (o : CalOutcome) : (s.calFail o).Bounded := by
  rw [State.calFail_eq]; exact ⟨h.sp, h.we, h.sd.advised _, h.lq⟩

theorem State.Bounded.calDone {s : State} (h : s.Bounded) (o : CalOutcome) : (s.calDone o).Bounded := by
  rw [State.calDone_eq]; exact ⟨h.sp, h.we, h.sd.advised _, h.lq⟩

theorem State.Bounded.abortWeigh {s : State} (h : s.Bounded) (c : AbortCause) : (s.abortWeigh c).Bounded := by
  obtain ⟨cycles, time, credited, discarded, undone, -, rest⟩ := h.lq
  rw [State.abortWeigh_eq]
  refine ⟨h.sp, h.we, ?_, cycles, time, credited, discarded, undone, min_le_left _ _, rest⟩
  dsimp only
  split
  · exact h.sd.advised _
  · exact h.sd

theorem State.Bounded.abortIfWeighing {s : State} (h : s.Bounded) (c : AbortCause) : (s.abortIfWeighing c).Bounded := by
  by_cases weighing : s.ct.tracker = .weighing
  · rw [State.abortIfWeighing_weighing weighing]
    have aborted := h.abortWeigh c
    refine ⟨?_, aborted.we, aborted.sd, aborted.lq⟩
    rw [State.abortWeigh_eq]
    exact h.sp.ended
  · rwa [State.abortIfWeighing_other weighing]

/-! ### A sample keeps the bounds -/

theorem State.Bounded.completeWindow {s : State} (h : s.Bounded) : s.completeWindow.Bounded := by
  have closed : State.Bounded { s with we.windowOpen := false } := ⟨h.sp, h.we, h.sd, h.lq⟩
  unfold State.completeWindow
  dsimp only
  split
  · exact h.abortWeigh .noData
  · split
    · rw [State.acceptPass_eq]; exact ⟨h.sp, h.we, h.sd, h.lq⟩
    · unfold State.tareResult
      dsimp only
      split_ifs
      · exact State.Bounded.calFail (by exact ⟨h.sp, h.we, h.sd, h.lq⟩) _
      · exact State.Bounded.calFail (by exact ⟨h.sp, h.we, h.sd, h.lq⟩) _
      · rw [State.queueAdvisory_eq]; exact ⟨h.sp, h.we, h.sd.advised _, h.lq⟩
    · unfold State.loadedResult State.commitTable
      dsimp only
      split_ifs
      · exact State.Bounded.calFail (by exact ⟨h.sp, h.we, h.sd, h.lq⟩) _
      · exact State.Bounded.calFail (by exact ⟨h.sp, h.we, h.sd, h.lq⟩) _
      · split
        · exact State.Bounded.calFail (by exact ⟨h.sp, h.we, h.sd, h.lq⟩) _
        · exact State.Bounded.calDone (by exact ⟨h.sp, h.we, h.sd, h.lq⟩) _
    · unfold State.zeroResult
      dsimp only
      split_ifs
      · exact State.Bounded.calDone (by exact ⟨h.sp, h.we, h.sd, h.lq⟩) _
      · exact State.Bounded.calFail (by exact ⟨h.sp, h.we, h.sd, h.lq⟩) _
    · exact ⟨h.sp, h.we, h.sd, h.lq⟩

theorem State.Bounded.judgeSample {s : State} (h : s.Bounded) (theta phi : Int) : (s.judgeSample theta phi).Bounded := by
  have low := h.lowEntry
  have up : (s.takeUpBoom theta).Bounded := by
    unfold State.takeUpBoom
    split
    · exact low
    · exact ⟨h.sp, h.we, h.sd, h.lq⟩
  have carried : (s.judgeCarried theta phi).Bounded := by
    unfold State.judgeCarried
    split
    · exact low
    · exact ⟨h.sp, h.we, h.sd, h.lq⟩
  unfold State.judgeSample
  split
  · exact h
  · exact up
  · split
    · exact h
    · exact up
  · unfold State.judgeLow
    split
    · exact ⟨h.sp, Nat.zero_le _, h.sd, h.lq⟩
    · exact h
  · unfold State.judgeLifting
    split_ifs
    · exact low
    · exact ⟨h.sp, h.we, h.sd, h.lq⟩
    · exact ⟨h.sp, h.we, h.sd, h.lq⟩
    · exact h
  · unfold State.judgeWeighing
    split_ifs
    · exact State.Bounded.completeWindow (by exact ⟨h.sp, h.we, h.sd, h.lq⟩)
    · have aborted := h.abortWeigh .lowered
      exact ⟨aborted.sp, aborted.we, aborted.sd, aborted.lq⟩
    · exact ⟨h.sp, h.we, h.sd, h.lq⟩
  · exact carried
  · exact carried
  · unfold State.judgeDumping
    split
    · exact ⟨h.sp, h.we, h.sd, h.lq⟩
    · exact h

theorem length_pushHistory_le {hist : List Int} (h : hist.length ≤ 8) (f : Int) : (pushHistory hist f).length ≤ 8 := by
  unfold pushHistory historyCapacity
  split <;> simp <;> omega

theorem State.Bounded.weighSample {s : State} (h : s.Bounded) (n : Nat) (x : Sample) : (s.weighSample n x).Bounded := by
  have filtered : (s.we.filterForce n x.fRaw).history.length ≤ 8 := by
    unfold We.filterForce
    split
    · exact h.we
    · exact length_pushHistory_le h.we _
  refine ⟨h.sp, ?_, h.sd, h.lq⟩
  unfold State.weighSample
  dsimp only
  split
  · obtain ⟨_, _, _, _, _, e⟩ := We.windowSample_frame x (s.we.filterForce n x.fRaw)
    rw [e]; exact filtered
  · exact filtered

theorem State.Bounded.noteSet {s : State} (h : s.Bounded) (x : SampleSet) : (s.noteSet x).Bounded := by
  obtain ⟨trace, held, clean, gap, frames⟩ := h.sp
  have noted : ∀ p : Sp, p = ((s.sp.takeSeq x.seq).takeTheta x.channels.theta).takeTiltPitch x.channels.phi x.channels.psi →
      p.trace = s.sp.trace ∧ p.heldAngle ≤ 4 ∧ p.cleanRun = s.sp.cleanRun ∧ p.gapCount ≤ 65535
        ∧ p.frameErrors = s.sp.frameErrors := by
    rintro p rfl
    have gaps : (s.sp.takeSeq x.seq).gapCount ≤ 65535 := by
      simp only [Sp.takeSeq]
      split
      · exact min_le_left _ _
      · exact gap
    cases theta : x.channels.theta with
    | none => exact ⟨rfl, min_le_left _ _, rfl, gaps, rfl⟩
    | some t => exact ⟨rfl, Nat.zero_le _, rfl, gaps, rfl⟩
  obtain ⟨sameTrace, held, sameClean, gap, sameFrames⟩ := noted _ rfl
  unfold State.noteSet
  generalize Sp.takeTiltPitch _ _ _ = p at *
  rw [← sameTrace] at trace
  rw [← sameClean] at clean
  rw [← sameFrames] at frames
  unfold State.judgeFaults
  dsimp only
  split_ifs
  · exact ⟨⟨trace, held, Nat.zero_le _, gap, frames⟩, h.we, h.sd, h.lq⟩
  · exact ⟨⟨trace, held, Nat.zero_le _, gap, frames⟩, h.we, h.sd, h.lq⟩
  · exact ⟨⟨trace, held, min_le_left _ _, gap, frames⟩, h.we, h.sd, h.lq⟩
  · exact ⟨⟨trace, held, Nat.zero_le _, gap, frames⟩, h.we, h.sd, h.lq⟩

/-! ### The trace (R14, R15) -/

/-- The trace with one more entry (R14). -/
def Trace.appended (e : TraceEntry) (t : Trace) : Trace :=
  { t with
    entries := (if t.entries.length < 128 then t.entries else t.entries.tail) ++ [e]
    drops := if t.entries.length < 128 then t.drops else min 255 (t.drops + 1) }

theorem State.appendTrace_trace (e : TraceEntry) (s : State) :
    ∃ n, s.appendTrace e = { s with sp.trace := s.sp.trace.appended e, ex.pending := n } := by
  unfold State.appendTrace Trace.appended
  dsimp only
  by_cases room : s.sp.trace.entries.length < 128
  · obtain ⟨n, announced⟩ := State.announceHalf_frame s.sp.trace.entries.length
      { s with sp.trace.entries := s.sp.trace.entries ++ [e] }
    rw [if_pos (show s.sp.trace.entries.length < traceCapacity from room), announced]
    simp only [if_pos room]
    exact ⟨n, rfl⟩
  · rw [if_neg (show ¬s.sp.trace.entries.length < traceCapacity from room)]
    simp only [if_neg room]
    exact ⟨_, rfl⟩

theorem Trace.length_appended {t : Trace} (h : t.entries.length ≤ 128) (e : TraceEntry) :
    (t.appended e).entries.length ≤ 128 := by
  simp only [Trace.appended, List.length_append, List.length_singleton]
  split
  · omega
  · rw [List.length_tail]; omega

/-- A recording that goes on has room (R15). -/
theorem phaseAfter_recording {windowEnded : Bool} {n : Nat} (h : phaseAfter windowEnded n = .recording) : n < 128 := by
  unfold phaseAfter traceCapacity at h
  split at h
  · cases h
  next more =>
    simp at more
    exact more.2

/-- The trace after a received set, in each mode (R14, R15). -/
theorem Trace.sound_recordSet (before : Tracker) (e : TraceEntry) {s : State} (h : s.sp.trace.sound) :
    (s.recordSet before e).sp.trace.sound := by
  obtain ⟨short, drops, unowned, waiting, recording, lift⟩ := h
  have owned : ∀ m, s.sp.trace.mode = m → m ≠ .off → ¬s.sp.trace.owner = none := fun m mode on free =>
    on (mode.symm.trans (unowned free).1)
  obtain ⟨n, appended⟩ := State.appendTrace_trace e s
  unfold State.recordSet
  dsimp only
  rw [appended]
  split
  next => exact ⟨short, drops, unowned, waiting, recording, lift⟩
  next ring =>
    refine ⟨Trace.length_appended short e, ?_, fun free => absurd free (owned _ ring (by decide)), ?_, ?_, ?_⟩
    · simp only [Trace.appended]
      split
      · exact drops
      · exact min_le_left _ _
    · intro mode; rw [show s.sp.trace.mode = _ from mode] at ring; cases ring
    · intro mode; rw [show s.sp.trace.mode = _ from mode] at ring; cases ring
    · intro ph mode; rw [show s.sp.trace.mode = _ from mode] at ring; cases ring
  next wait =>
    have room : s.sp.trace.entries.length < 128 := by rw [waiting wait]; decide
    have kept : s.sp.trace.drops = 0 := lift _ wait
    split
    · refine ⟨Trace.length_appended short e, ?_, fun free => absurd free (owned _ wait (by decide)), ?_, ?_, fun _ _ => ?_⟩
      · simp [Trace.appended, room, kept]
      · simp only [phaseAfter]; split <;> simp
      · intro _; simp [Trace.appended, waiting wait]
      · simp [Trace.appended, room, kept]
    · exact ⟨short, drops, unowned, waiting, recording, lift⟩
  next record =>
    have room : s.sp.trace.entries.length < 128 := recording record
    have kept : s.sp.trace.drops = 0 := lift _ record
    refine ⟨Trace.length_appended short e, ?_, fun free => absurd free (owned _ record (by decide)), ?_, ?_, fun _ _ => ?_⟩
    · simp [Trace.appended, room, kept]
    · simp only [phaseAfter]; split <;> simp
    · exact fun mode => phaseAfter_recording (TraceMode.lift.inj mode)
    · simp [Trace.appended, room, kept]
  next => exact ⟨short, drops, unowned, waiting, recording, lift⟩

theorem State.Bounded.recordSet {s : State} (h : s.Bounded) (before : Tracker) (e : TraceEntry) :
    (s.recordSet before e).Bounded := by
  have trace := Trace.sound_recordSet before e h.sp.1
  obtain ⟨_, _, recorded⟩ := State.recordSet_frame before e s
  rw [recorded] at trace ⊢
  exact ⟨⟨trace, h.sp.2⟩, h.we, h.sd, h.lq⟩

theorem State.Bounded.receiveFrame {s : State} (h : s.Bounded) (bits : List Bool) : (s.receiveFrame bits).Bounded := by
  unfold State.receiveFrame
  split
  · exact h
  · split
    · obtain ⟨trace, held, clean, gap, -⟩ := h.sp
      exact ⟨⟨trace, held, clean, gap, min_le_left _ _⟩, h.we, h.sd, h.lq⟩
    next x _ =>
      unfold State.receiveSet
      refine State.Bounded.recordSet ?_ _ _
      have noted := h.noteSet x
      unfold State.passOn
      split
      · unfold State.handOn
        exact State.Bounded.weighSample (State.Bounded.judgeSample (by exact ⟨noted.sp, noted.we, noted.sd, noted.lq⟩) _ _) _ _
      · exact noted

/-! ### Closes, credits and function events -/

theorem State.Bounded.closeLoad {s : State} (h : s.Bounded) (c : CloseCause) : (s.closeLoad c).Bounded := by
  obtain ⟨cycles, time, credited, discarded, undone, aborts, -, -, dropped, duration⟩ := h.lq
  rw [State.closeLoad_eq]
  refine ⟨h.sp, h.we, h.sd.advised _, cycles, time, credited, discarded, undone, aborts, min_le_left _ _, min_le_left _ _, ?_,
    duration⟩
  show (if s.lq.queue.length < 32 then s.lq.counters.dropped else min 255 (s.lq.counters.dropped + 1)) ≤ 255
  split_ifs
  · exact dropped
  · exact min_le_left _ _

theorem State.Bounded.announceLoad {s : State} (h : s.Bounded) (old : LoadState) : (s.announceLoad old).Bounded := by
  unfold State.announceLoad
  split
  · exact h
  · split
    · rw [State.queueAdvisory_eq]; exact ⟨h.sp, h.we, h.sd.advised _, h.lq⟩
    · rw [State.queueAdvisory_eq]; exact ⟨h.sp, h.we, h.sd.advised _, h.lq⟩
    · exact h

theorem State.Bounded.countCredit {s : State} (h : s.Bounded) : s.countCredit.Bounded := by
  obtain ⟨cycles, time, -, rest⟩ := h.lq
  exact ⟨h.sp, h.we, h.sd, cycles, time, min_le_left _ _, rest⟩

theorem State.Bounded.credit {s : State} (h : s.Bounded) : s.credit.Bounded := by
  have roomy : s.makeRoom.Bounded := by
    unfold State.makeRoom
    split
    · exact h
    · exact h.closeLoad _
  unfold State.credit
  split
  · exact h
  next x _ =>
    have appended : (s.makeRoom.appendPass x).countCredit.Bounded :=
      State.Bounded.countCredit (by exact ⟨roomy.sp, roomy.we, roomy.sd, roomy.lq⟩)
    have announced : (State.announceLoad s.makeRoom.lt.load.state
        ((s.makeRoom.appendPass x).countCredit.raiseBoth .passCredited).recomputeLoad).Bounded :=
      State.Bounded.announceLoad (by exact ⟨appended.sp, appended.we, appended.sd, appended.lq⟩) _
    dsimp only
    unfold State.autoClose
    split
    · exact announced.closeLoad _
    · exact announced

theorem State.Bounded.takeEvent {s : State} (h : s.Bounded) (v : LineEvent) : (s.takeEvent v).Bounded := by
  obtain ⟨cycles, time, credited, discarded, undone, rest⟩ := h.lq
  cases v
  case tipOff =>
    show s.tipOff.Bounded
    unfold State.tipOff
    split
    · exact h
    · rw [State.queueAdvisory_eq]; exact ⟨h.sp, h.we, h.sd.advised _, h.lq⟩
  case undo =>
    show s.undoPass.Bounded
    unfold State.undoPass
    split
    · exact h
    · exact ⟨h.sp, h.we, h.sd, cycles, time, credited, discarded, min_le_left _ _, rest⟩
  case nextTruck =>
    show s.nextTruckEvent.Bounded
    unfold State.nextTruckEvent
    split
    · exact h
    · exact h.closeLoad _
  case discard =>
    show s.discardPass.Bounded
    unfold State.discardPass
    split
    · exact h
    · exact ⟨h.sp, h.we, h.sd, cycles, time, credited, min_le_left _ _, undone, rest⟩
  case ackMsg =>
    obtain ⟨_, _, e⟩ := State.ackMessage_frame s
    show s.ackMessage.Bounded
    rw [e]; exact ⟨h.sp, h.we, h.sd, h.lq⟩

theorem State.Bounded.dwellExpiry {s : State} (h : s.Bounded) : s.dwellExpiry.Bounded := by
  obtain ⟨cycles, time, rest⟩ := h.lq
  unfold State.dwellExpiry
  split
  · split
    · unfold State.dumpEntry
      dsimp only
      split
      · exact State.Bounded.credit ⟨h.sp, h.we, h.sd, min_le_left _ _, min_le_left _ _, rest⟩
      · exact ⟨h.sp, h.we, h.sd, h.lq⟩
    · exact ⟨h.sp, h.we, h.sd, h.lq⟩
    · exact h
  · exact h

/-! ### Levels, expiries and orders -/

theorem State.Bounded.parkChange {s : State} (h : s.Bounded) (b : Bool) : (s.parkChange b).Bounded := by
  unfold State.parkChange
  dsimp only
  split
  · have aborted : (State.abortIfWeighing .park { s with ct.park := b }).Bounded :=
      State.Bounded.abortIfWeighing (by exact ⟨h.sp, h.we, h.sd, h.lq⟩) _
    exact ⟨aborted.sp, aborted.we, aborted.sd, aborted.lq⟩
  · exact ⟨h.sp, h.we, h.sd, h.lq⟩

theorem State.Bounded.handLevels {s : State} (h : s.Bounded) : s.handLevels.Bounded :=
  State.handLevels_keeps h (fun _ _ h => ⟨h.sp, h.we, h.sd, h.lq⟩) (fun _ b h => h.parkChange b)
    (fun t a b h => by
      obtain ⟨_, e⟩ := State.dumpSwitchChange_frame a b t
      rw [e]; exact ⟨h.sp, h.we, h.sd, h.lq⟩)
    (fun _ _ h => ⟨h.sp, h.we, h.sd, h.lq⟩)

theorem State.Bounded.evaluateWatches {s : State} (h : s.Bounded) (before after : BitVec 8) :
    (s.evaluateWatches before after).Bounded :=
  State.evaluateWatches_keeps h (fun _ _ _ h => ⟨h.sp, h.we, h.sd, h.lq⟩) before after

theorem State.Bounded.tickTimers {s : State} (h : s.Bounded) : s.tickTimers.Bounded :=
  ⟨h.sp, h.we, ⟨h.sd.1, by simpa [State.tickTimers] using h.sd.2⟩, h.lq⟩

theorem State.Bounded.lineUpdate {s : State} (h : s.Bounded) : s.lineUpdate.Bounded := by
  unfold State.lineUpdate
  dsimp only
  split
  · refine State.Bounded.evaluateWatches (State.takeEvents_keeps (fun _ e h => h.takeEvent e)
      (fun _ _ h => ⟨h.sp, h.we, h.sd, h.lq⟩) _ _ (State.Bounded.handLevels ?_)) _ _
    exact ⟨h.sp, h.we, h.sd, h.lq⟩
  · exact ⟨h.sp, h.we, h.sd, h.lq⟩

theorem State.Bounded.applyLines {s : State} (h : s.Bounded) (r : LinesRec) : (s.applyLines r).Bounded := by
  have handed : (State.handLevels { s with lm.settings := r }).Bounded :=
    State.Bounded.handLevels (by exact ⟨h.sp, h.we, h.sd, h.lq⟩)
  unfold State.applyLines
  dsimp only
  split
  · exact handed
  · exact handed.evaluateWatches _ _

theorem State.Bounded.sampleLoss {s : State} (h : s.Bounded) : s.sampleLoss.Bounded := by
  obtain ⟨trace, -, -, gap, frames⟩ := h.sp
  unfold State.sampleLoss
  split
  · generalize lost : State.raiseBoth .sensorFault _ = t
    have bounded : t.Bounded := by
      subst lost
      exact ⟨⟨trace, Nat.zero_le _, Nat.zero_le _, gap, frames⟩, h.we, h.sd, h.lq⟩
    unfold State.trackerLoss
    split
    · have aborted := bounded.abortIfWeighing .sensorLost
      exact ⟨aborted.sp, aborted.we, aborted.sd, aborted.lq⟩
    · exact bounded
  · exact h

theorem State.Bounded.advisoryExpiry {s : State} (h : s.Bounded) : s.advisoryExpiry.Bounded := by
  obtain ⟨short, -⟩ := h.sd
  unfold State.advisoryExpiry
  split
  · split
    · exact ⟨h.sp, h.we, ⟨Nat.zero_le _, by simp⟩, h.lq⟩
    next more shown =>
      refine ⟨h.sp, h.we, ⟨?_, by simpa using shown⟩, h.lq⟩
      show s.sd.advisories.tail.length ≤ 4
      rw [List.length_tail]; omega
  · exact h

theorem Sp.Bounded.startPacing {p : Sp} (h : p.Bounded) : p.startPacing.Bounded := by
  unfold Sp.startPacing
  split <;> exact h

theorem State.Bounded.run {s : State} (h : s.Bounded) : (orderRun s).state.Bounded := by
  have running : s.samplingRun.Bounded := by
    unfold State.samplingRun
    split
    · exact h
    · obtain ⟨trace, -, -, gap, frames⟩ := h.sp
      exact ⟨Sp.Bounded.startPacing ⟨trace, Nat.zero_le _, Nat.zero_le _, gap, frames⟩, Nat.zero_le _, h.sd, h.lq⟩
  obtain ⟨_, e⟩ := State.trackerRun_frame s.samplingRun
  show s.samplingRun.trackerRun.Bounded
  rw [e]; exact ⟨running.sp, running.we, running.sd, running.lq⟩

theorem State.Bounded.stop {s : State} (h : s.Bounded) : (orderStop s).state.Bounded := by
  have stopped : s.trackerStop.Bounded := by
    unfold State.trackerStop
    split
    · exact h
    · have aborted := h.abortIfWeighing .stopped
      exact ⟨aborted.sp, aborted.we, aborted.sd, aborted.lq⟩
  show s.trackerStop.samplingStop.Bounded
  unfold State.samplingStop
  split
  · exact stopped
  · exact ⟨stopped.sp, stopped.we, stopped.sd, stopped.lq⟩

/-- A trace just armed, or cancelled, is empty (R13, R17). -/
theorem Trace.sound_empty {t : Trace} (entries : t.entries = []) (drops : t.drops = 0) (owner : t.owner = none → t.mode = .off) :
    t.sound := by
  simp [Trace.sound, entries, drops]
  exact owner

theorem State.Bounded.traceArm {s : State} (h : s.Bounded) (p : Port) (m : Byte) : (orderTraceArm p m s).state.Bounded := by
  unfold orderTraceArm
  split
  · exact h
  · dsimp only
    split_ifs
    · exact h
    · obtain ⟨⟨short, drops, unowned, -⟩, counts⟩ := h.sp
      exact ⟨⟨⟨short, drops, fun free => ⟨rfl, (unowned free).2⟩, by rintro ⟨⟩, by rintro ⟨⟩, by rintro _ ⟨⟩⟩, counts⟩, h.we, h.sd,
        h.lq⟩
    · exact ⟨⟨Trace.sound_empty rfl rfl (by rintro ⟨⟩), h.sp.2⟩, h.we, h.sd, h.lq⟩

theorem State.Bounded.traceRead {s : State} (h : s.Bounded) (p : Port) (n : Byte) : (orderTraceRead p n s).state.Bounded := by
  obtain ⟨⟨short, drops, unowned, waiting, recording, lift⟩, counts⟩ := h.sp
  unfold orderTraceRead
  dsimp only
  split_ifs
  · exact h
  · exact h
  · exact h
  · refine ⟨⟨⟨?_, drops, fun free => ?_, fun mode => ?_, fun mode => ?_, lift⟩, counts⟩, h.we, h.sd, h.lq⟩
    · rw [List.length_drop]; omega
    · simp [unowned free]
    · simp [waiting mode]
    · have room := recording mode
      rw [List.length_drop]; omega

theorem State.Bounded.loseHold {s : State} (h : s.Bounded) : s.loseHold.Bounded :=
  State.Bounded.abandonCal (by exact ⟨h.sp, h.we, h.sd, h.lq⟩) _

theorem State.Bounded.linkReset {s : State} (h : s.Bounded) (p : Port) : (orderLinkReset p s).state.Bounded := by
  have released : (State.resetHold p (s.setPort p { s.ports.get p with order := none, ended := false })).Bounded := by
    unfold State.resetHold
    split
    · exact State.Bounded.loseHold (by exact ⟨h.sp, h.we, h.sd, h.lq⟩)
    · exact ⟨h.sp, h.we, h.sd, h.lq⟩
  have cancelled : (State.resetTrace p (State.resetHold p
      (s.setPort p { s.ports.get p with order := none, ended := false }))).Bounded := by
    unfold State.resetTrace
    split
    · exact ⟨⟨Trace.sound_empty rfl rfl fun _ => rfl, released.sp.2⟩, released.we, released.sd, released.lq⟩
    · exact released
  exact ⟨cancelled.sp, cancelled.we, cancelled.sd, cancelled.lq⟩

theorem State.Bounded.shiftEnd {s : State} (h : s.Bounded) : (orderShiftEnd s).state.Bounded := by
  have closed : s.shiftClose.Bounded := by
    unfold State.shiftClose
    split
    · exact h
    · exact h.closeLoad _
  exact ⟨closed.sp, closed.we, closed.sd, by simp [orderShiftEnd, Counters.sound, Counters.zero]⟩

theorem bounded_reset : State.reset.Bounded :=
  ⟨⟨Trace.sound_empty rfl rfl fun _ => rfl, by decide⟩, by decide, ⟨by decide, by simp [State.reset, Sd.reset]⟩,
    by simp [State.reset, Lq.reset, Counters.sound, Counters.zero]⟩

theorem bounded_kept : Kept State.Bounded where
  ports _ _ h := ⟨h.sp, h.we, h.sd, h.lq⟩
  mail _ _ _ _ _ h := ⟨h.sp, h.we, h.sd, h.lq⟩
  notices _ _ _ h := ⟨h.sp, h.we, h.sd, h.lq⟩
  idleTimer _ _ h := ⟨h.sp, h.we, h.sd, h.lq⟩
  queue _ _ h := ⟨h.sp, h.we, h.sd, h.lq⟩
  reset _ := ⟨bounded_reset.sp, bounded_reset.we, bounded_reset.sd, bounded_reset.lq⟩
  release s h := by
    unfold State.resetRelease
    split
    · exact ⟨h.sp, h.we, h.sd, h.lq⟩
    · exact h
  frame _ bits h := h.receiveFrame bits
  pulse s h := by
    obtain ⟨_, _, _, e⟩ := State.pacePulse_frame s
    rw [e]; exact ⟨h.sp, h.we, h.sd, h.lq⟩
  loss _ h := h.sampleLoss
  tick s raw h := by
    have ticked := h.tickTimers
    unfold State.lineTick
    dsimp only
    split
    · exact ⟨ticked.sp, ticked.we, ticked.sd, ticked.lq⟩
    · exact State.Bounded.handLevels (by exact ⟨ticked.sp, ticked.we, ticked.sd, ticked.lq⟩)
  update _ h := h.lineUpdate
  timeout s h := by
    unfold State.windowTimeout
    split
    · have aborted := h.abortIfWeighing .timeout
      exact ⟨aborted.sp, aborted.we, aborted.sd, aborted.lq⟩
    · exact h
  dwell _ h := h.dwellExpiry
  lapse s h := by
    unfold State.holdLapse
    split
    · exact h
    · split
      · exact State.Bounded.loseHold (by exact ⟨h.sp, h.we, h.sd, h.lq⟩)
      · exact h
  strip _ _ _ _ _ h := ⟨h.sp, h.we, h.sd, h.lq⟩
  blink _ _ _ h := ⟨h.sp, h.we, h.sd, h.lq⟩
  advisory _ h := h.advisoryExpiry
  loadSecond s h := by
    obtain ⟨_, _, e⟩ := State.loadSecond_frame s
    rw [e]; exact ⟨h.sp, h.we, h.sd, h.lq⟩
  shiftSecond s h := by
    unfold State.shiftSecond
    split
    · obtain ⟨cycles, time, credited, discarded, undone, aborts, closed, tonnes, dropped, -⟩ := h.lq
      exact ⟨h.sp, h.we, h.sd, cycles, time, credited, discarded, undone, aborts, closed, tonnes, dropped, min_le_left _ _⟩
    · exact h
  run _ h := h.run
  stop _ h := h.stop
  setTarget s p w h := by
    unfold orderSetTarget
    split
    · exact h
    · exact State.Bounded.announceLoad (by exact ⟨h.sp, h.we, h.sd, h.lq⟩) _
  setNext _ _ h := ⟨h.sp, h.we, h.sd, h.lq⟩
  closeLoad s h := by
    unfold orderCloseLoad
    split
    · exact h
    · exact h.closeLoad _
  releaseLoad s n h := by
    obtain ⟨_, e⟩ := orderReleaseLoad_frame n s
    rw [e]; exact ⟨h.sp, h.we, h.sd, h.lq⟩
  shiftEnd _ h := h.shiftEnd
  writeSample s r h := by
    unfold orderWriteSample
    split
    · exact h
    · refine ⟨?_, h.we, h.sd, h.lq⟩
      dsimp only [Answer.done]
      split
      · exact Sp.Bounded.startPacing h.sp
      · exact h.sp
  writeWeigh s p w h := by
    unfold orderWriteWeigh State.placeWeigh
    split
    · exact h
    · split
      · exact h
      · dsimp only [Answer.done]
        split
        · exact h.applyWeigh _
        · exact ⟨h.sp, h.we, h.sd, h.lq⟩
  writeCycle s p w h := by
    unfold orderWriteCycle State.placeCycle
    split
    · exact h
    · split
      · exact h
      · dsimp only [Answer.done]
        split
        · rw [State.applyPendingWeigh_eq]
          exact State.Bounded.applyWeigh (by exact ⟨h.sp, h.we, h.sd, h.lq⟩) _
        · exact ⟨h.sp, h.we, h.sd, h.lq⟩
  writeLoad s w h := by
    obtain ⟨_, _, e⟩ := orderWriteLoad_frame w s
    rw [e]; exact ⟨h.sp, h.we, h.sd, h.lq⟩
  writeLines s w h := by
    unfold orderWriteLines
    split
    · exact h
    · exact h.applyLines _
  writeStrip _ _ h := ⟨h.sp, h.we, h.sd, h.lq⟩
  writeMaterial _ _ h := ⟨h.sp, h.we, h.sd, h.lq⟩
  takeHold s p h := by
    obtain ⟨_, _, e⟩ := orderTakeHold_frame p s
    rw [e]; exact ⟨h.sp, h.we, h.sd, h.lq⟩
  dropHold s p h := by
    unfold orderDropHold
    split
    · exact h.loseHold
    · exact h
  calTare s p h := by
    unfold orderCalTare
    split
    · exact h
    · split_ifs
      · exact h
      · exact h
      · dsimp only [Answer.done]
        rw [State.queueAdvisory_eq]; exact ⟨h.sp, h.we, h.sd.advised _, h.lq⟩
  calLoaded s p m h := by
    obtain ⟨_, e⟩ := orderCalLoaded_frame p m s
    rw [e]; exact ⟨h.sp, h.we, h.sd, h.lq⟩
  calZero s p h := by
    unfold orderCalZero
    split_ifs
    · exact h
    · exact h
    · exact h
    all_goals
      dsimp only [Answer.done]
      rw [State.queueAdvisory_eq]; exact ⟨h.sp, h.we, h.sd.advised _, h.lq⟩
  calAbort s p h := by
    unfold orderCalAbort
    split
    · exact h
    · exact h.abandonCal _
  writeTable s p w h := by
    obtain ⟨_, e⟩ := orderWriteTable_frame p w s
    rw [e]; exact ⟨h.sp, h.we, h.sd, h.lq⟩
  watch _ _ h := ⟨h.sp, h.we, h.sd, h.lq⟩
  traceArm _ p m h := h.traceArm p m
  traceRead _ p n h := h.traceRead p n
  openWindow s p w h := by
    obtain ⟨_, e⟩ := orderOpenWindow_frame p w s
    rw [e]; exact ⟨h.sp, h.we, h.sd, h.lq⟩
  putText s p cs h := by
    obtain ⟨_, _, e⟩ := orderPutText_frame p cs s
    rw [e]; exact ⟨h.sp, h.we, h.sd, h.lq⟩
  setStrip _ _ h := ⟨h.sp, h.we, h.sd, h.lq⟩
  linkReset _ p h := h.linkReset p

/-- Settles O60: the three parts, each kept by every command. -/
theorem stepKeepsBuffers : Obligations.StepKeepsBuffers := by
  unfold Obligations.StepKeepsBuffers
  refine fun s t e => ⟨fun h => ?_, fun h => stripSound_kept.step h e, fun h => linesSound_kept.step h e⟩
  rw [State.buffersSound_iff] at h ⊢
  exact bounded_kept.step h e

end Sys2Proof.Machine
end

section
/-! What the orders and the events of the blocks leave alone: the ports, the message slots, whether RESET holds the part, and the
waiting commands. -/

namespace Sys2Proof.Machine

open Sys2Proof

/-- From `s` to `t` the ports, the slots, the hold of RESET and the waiting commands stay. -/
structure State.Calm (s t : State) : Prop where
  ports : t.ports = s.ports
  slots : t.ex.slots = s.ex.slots
  storeOrder : t.ex.storeOrder = s.ex.storeOrder
  deposits : t.ex.deposits = s.ex.deposits
  held : t.held = s.held
  pending : t.pending = s.pending

theorem State.Calm.refl (s : State) : s.Calm s := ⟨rfl, rfl, rfl, rfl, rfl, rfl⟩

theorem State.Calm.of_eq {s t : State} (h : t = s) : s.Calm t := h ▸ .refl s

theorem State.Calm.trans {s t u : State} (h : s.Calm t) (k : t.Calm u) : s.Calm u :=
  ⟨k.ports.trans h.ports, k.slots.trans h.slots, k.storeOrder.trans h.storeOrder, k.deposits.trans h.deposits,
    k.held.trans h.held, k.pending.trans h.pending⟩

section

variable (s : State)

/-! ### Events -/

theorem calm_receiveFrame (bits : List Bool) : s.Calm (s.receiveFrame bits) := by
  obtain ⟨_, _, _, _, _, _, _, _, _, _, e⟩ := State.receiveFrame_frame bits s
  rw [e]; exact ⟨rfl, rfl, rfl, rfl, rfl, rfl⟩

theorem calm_pacePulse : s.Calm s.pacePulse := by
  obtain ⟨_, _, _, e⟩ := State.pacePulse_frame s
  rw [e]; exact ⟨rfl, rfl, rfl, rfl, rfl, rfl⟩

theorem calm_sampleLoss : s.Calm s.sampleLoss := by
  obtain ⟨_, _, _, _, _, _, _, _, _, e⟩ := State.sampleLoss_frame s
  rw [e]; exact ⟨rfl, rfl, rfl, rfl, rfl, rfl⟩

theorem calm_handLevels : s.Calm s.handLevels := by
  obtain ⟨_, _, _, _, _, _, _, _, _, _, _, e⟩ := State.handLevels_frame s
  rw [e]; exact ⟨rfl, rfl, rfl, rfl, rfl, rfl⟩

theorem calm_lineTick (raw : BitVec 8) : s.Calm (s.lineTick raw) := by
  unfold State.lineTick
  dsimp only
  split
  · exact ⟨rfl, rfl, rfl, rfl, rfl, rfl⟩
  · exact .trans (t := { s.tickTimers with lm := s.tickTimers.lm.firstSample raw }) ⟨rfl, rfl, rfl, rfl, rfl, rfl⟩
      (calm_handLevels _)

theorem calm_windowTimeout : s.Calm s.windowTimeout := by
  obtain ⟨_, _, _, _, _, _, _, _, _, e⟩ := State.windowTimeout_frame s
  rw [e]; exact ⟨rfl, rfl, rfl, rfl, rfl, rfl⟩

theorem calm_dwellExpiry : s.Calm s.dwellExpiry := by
  obtain ⟨_, _, _, _, _, _, _, _, _, _, _, _, e⟩ := State.dwellExpiry_frame s
  rw [e]; exact ⟨rfl, rfl, rfl, rfl, rfl, rfl⟩

theorem calm_holdLapse : s.Calm s.holdLapse := by
  obtain ⟨_, _, _, _, _, _, _, e⟩ := State.holdLapse_frame s
  rw [e]; exact ⟨rfl, rfl, rfl, rfl, rfl, rfl⟩

theorem calm_refresh : s.Calm s.refresh := by
  obtain ⟨_, _, _, _, e⟩ := State.refresh_frame s
  rw [e]; exact ⟨rfl, rfl, rfl, rfl, rfl, rfl⟩

theorem calm_blinkToggle : s.Calm s.blinkToggle := by
  obtain ⟨_, _, e⟩ := State.blinkToggle_frame s
  rw [e]; exact ⟨rfl, rfl, rfl, rfl, rfl, rfl⟩

theorem calm_advisoryExpiry : s.Calm s.advisoryExpiry := by
  obtain ⟨_, _, _, e⟩ := State.advisoryExpiry_frame s
  rw [e]; exact ⟨rfl, rfl, rfl, rfl, rfl, rfl⟩

theorem calm_loadSecond : s.Calm s.loadSecond := by
  obtain ⟨_, _, e⟩ := State.loadSecond_frame s
  rw [e]; exact ⟨rfl, rfl, rfl, rfl, rfl, rfl⟩

theorem calm_shiftSecond : s.Calm s.shiftSecond := by
  obtain ⟨_, _, e⟩ := State.shiftSecond_frame s
  rw [e]; exact ⟨rfl, rfl, rfl, rfl, rfl, rfl⟩

/-! ### Orders -/

theorem calm_run : s.Calm (orderRun s).state := by
  obtain ⟨_, _, _, _, e⟩ := orderRun_frame s
  rw [e]; exact ⟨rfl, rfl, rfl, rfl, rfl, rfl⟩

theorem calm_stop : s.Calm (orderStop s).state := by
  obtain ⟨_, _, _, _, _, _, _, _, _, e⟩ := orderStop_frame s
  rw [e]; exact ⟨rfl, rfl, rfl, rfl, rfl, rfl⟩

theorem calm_setTarget (p : Port) (w : TargetWire) : s.Calm (orderSetTarget p w s).state := by
  obtain ⟨_, _, _, _, _, e⟩ := orderSetTarget_frame p w s
  rw [e]; exact ⟨rfl, rfl, rfl, rfl, rfl, rfl⟩

theorem calm_setNext (p : Port) (n : Byte) (w : TargetWire) : s.Calm (orderSetNext p n w s).state := by
  obtain ⟨_, e⟩ := orderSetNext_frame p n w s
  rw [e]; exact ⟨rfl, rfl, rfl, rfl, rfl, rfl⟩

theorem calm_closeLoad : s.Calm (orderCloseLoad s).state := by
  obtain ⟨_, _, _, _, _, _, _, _, _, _, e⟩ := orderCloseLoad_frame s
  rw [e]; exact ⟨rfl, rfl, rfl, rfl, rfl, rfl⟩

theorem calm_releaseLoad (n : BitVec 16) : s.Calm (orderReleaseLoad n s).state := by
  obtain ⟨_, e⟩ := orderReleaseLoad_frame n s
  rw [e]; exact ⟨rfl, rfl, rfl, rfl, rfl, rfl⟩

theorem calm_shiftEnd : s.Calm (orderShiftEnd s).state := by
  obtain ⟨_, _, _, _, _, _, _, _, _, _, _, _, _, e⟩ := orderShiftEnd_frame s
  rw [e]; exact ⟨rfl, rfl, rfl, rfl, rfl, rfl⟩

theorem calm_writeSample (r : Byte) : s.Calm (orderWriteSample r s).state := by
  obtain ⟨_, e⟩ := orderWriteSample_frame r s
  rw [e]; exact ⟨rfl, rfl, rfl, rfl, rfl, rfl⟩

theorem calm_writeWeigh (p : Port) (w : WeighWire) : s.Calm (orderWriteWeigh p w s).state := by
  obtain ⟨_, _, _, _, _, _, _, e⟩ := orderWriteWeigh_frame p w s
  rw [e]; exact ⟨rfl, rfl, rfl, rfl, rfl, rfl⟩

theorem calm_writeCycle (p : Port) (w : CycleWire) : s.Calm (orderWriteCycle p w s).state := by
  obtain ⟨_, _, _, _, _, _, _, _, _, e⟩ := orderWriteCycle_frame p w s
  rw [e]; exact ⟨rfl, rfl, rfl, rfl, rfl, rfl⟩

theorem calm_writeLoad (w : LoadWire) : s.Calm (orderWriteLoad w s).state := by
  obtain ⟨_, _, e⟩ := orderWriteLoad_frame w s
  rw [e]; exact ⟨rfl, rfl, rfl, rfl, rfl, rfl⟩

theorem calm_writeLines (w : LinesWire) : s.Calm (orderWriteLines w s).state := by
  obtain ⟨_, _, _, _, _, _, _, _, _, _, _, e⟩ := orderWriteLines_frame w s
  rw [e]; exact ⟨rfl, rfl, rfl, rfl, rfl, rfl⟩

theorem calm_writeStrip (w : StripWire) : s.Calm (orderWriteStrip w s).state := by
  obtain ⟨_, e⟩ := orderWriteStrip_frame w s
  rw [e]; exact ⟨rfl, rfl, rfl, rfl, rfl, rfl⟩

theorem calm_writeSettings (p : Port) (ps : List Byte) : s.Calm (orderWriteSettings p ps s).state := by
  unfold orderWriteSettings
  split
  · exact calm_writeSample s _
  · exact calm_writeWeigh s _ _
  · exact calm_writeCycle s _ _
  · exact calm_writeLoad s _
  · exact calm_writeLines s _
  · exact calm_writeStrip s _
  · exact .refl s

theorem calm_writeMaterial (w : MaterialWire) : s.Calm (orderWriteMaterial w s).state := by
  obtain ⟨_, e⟩ := orderWriteMaterial_frame w s
  rw [e]; exact ⟨rfl, rfl, rfl, rfl, rfl, rfl⟩

theorem calm_takeHold (p : Port) : s.Calm (orderTakeHold p s).state := by
  obtain ⟨_, _, e⟩ := orderTakeHold_frame p s
  rw [e]; exact ⟨rfl, rfl, rfl, rfl, rfl, rfl⟩

theorem calm_dropHold (p : Port) : s.Calm (orderDropHold p s).state := by
  obtain ⟨_, _, _, _, _, _, _, e⟩ := orderDropHold_frame p s
  rw [e]; exact ⟨rfl, rfl, rfl, rfl, rfl, rfl⟩

theorem calm_calTare (p : Port) : s.Calm (orderCalTare p s).state := by
  obtain ⟨_, _, _, _, e⟩ := orderCalTare_frame p s
  rw [e]; exact ⟨rfl, rfl, rfl, rfl, rfl, rfl⟩

theorem calm_calLoaded (p : Port) (m : BitVec 16) : s.Calm (orderCalLoaded p m s).state := by
  obtain ⟨_, e⟩ := orderCalLoaded_frame p m s
  rw [e]; exact ⟨rfl, rfl, rfl, rfl, rfl, rfl⟩

theorem calm_calZero (p : Port) : s.Calm (orderCalZero p s).state := by
  obtain ⟨_, _, _, _, _, _, e⟩ := orderCalZero_frame p s
  rw [e]; exact ⟨rfl, rfl, rfl, rfl, rfl, rfl⟩

theorem calm_calAbort (p : Port) : s.Calm (orderCalAbort p s).state := by
  obtain ⟨_, _, _, _, _, e⟩ := orderCalAbort_frame p s
  rw [e]; exact ⟨rfl, rfl, rfl, rfl, rfl, rfl⟩

theorem calm_writeTable (p : Port) (w : TableWire) : s.Calm (orderWriteTable p w s).state := by
  obtain ⟨_, e⟩ := orderWriteTable_frame p w s
  rw [e]; exact ⟨rfl, rfl, rfl, rfl, rfl, rfl⟩

theorem calm_setWatch (p : Port) (m c d : Byte) : s.Calm (orderSetWatch p m c d s).state := by
  obtain ⟨_, e⟩ := orderSetWatch_frame p m c d s
  rw [e]; exact ⟨rfl, rfl, rfl, rfl, rfl, rfl⟩

theorem calm_traceArm (p : Port) (m : Byte) : s.Calm (orderTraceArm p m s).state := by
  obtain ⟨_, e⟩ := orderTraceArm_frame p m s
  rw [e]; exact ⟨rfl, rfl, rfl, rfl, rfl, rfl⟩

theorem calm_traceRead (p : Port) (n : Byte) : s.Calm (orderTraceRead p n s).state := by
  obtain ⟨_, e⟩ := orderTraceRead_frame p n s
  rw [e]; exact ⟨rfl, rfl, rfl, rfl, rfl, rfl⟩

theorem calm_openWindow (p : Port) (w : WindowWire) : s.Calm (orderOpenWindow p w s).state := by
  obtain ⟨_, e⟩ := orderOpenWindow_frame p w s
  rw [e]; exact ⟨rfl, rfl, rfl, rfl, rfl, rfl⟩

theorem calm_putText (p : Port) (cs : List Byte) : s.Calm (orderPutText p cs s).state := by
  obtain ⟨_, _, e⟩ := orderPutText_frame p cs s
  rw [e]; exact ⟨rfl, rfl, rfl, rfl, rfl, rfl⟩

theorem calm_setStrip (b : Byte) : s.Calm (orderSetStrip b s).state := by
  obtain ⟨_, e⟩ := orderSetStrip_frame b s
  rw [e]; exact ⟨rfl, rfl, rfl, rfl, rfl, rfl⟩

/-- The orders of Table 11-3 are calm, but for a deposit, READ_MESSAGE and LINK_RESET. -/
theorem calm_orderOf (p : Port) {code : Byte} (ps : List Byte) (noDeposit : code.toNat ≠ 0x20) (noRead : code.toNat ≠ 0x21)
    (noReset : code.toNat ≠ 0x3F) : s.Calm (orderOf p code ps s).state := by
  unfold orderOf
  split
  · exact calm_run s
  · exact calm_stop s
  · exact .refl s
  · exact .refl s
  · exact calm_setTarget s _ _
  · exact calm_setNext s _ _ _
  · exact calm_closeLoad s
  · exact .of_eq (orderCollectLoad_state s)
  · exact calm_releaseLoad s _
  · exact .refl s
  · exact calm_shiftEnd s
  · exact .of_eq (orderReadSettings_state _ s)
  · exact calm_writeSettings s _ _
  · exact .of_eq (orderReadMaterial_state _ s)
  · exact calm_writeMaterial s _
  · exact calm_takeHold s _
  · exact calm_dropHold s _
  · exact calm_calTare s _
  · exact calm_calLoaded s _ _
  · exact calm_calZero s _
  · exact calm_calAbort s _
  · exact .refl s
  · exact calm_writeTable s _ _
  · contradiction
  · contradiction
  · exact .refl s
  · exact .refl s
  · exact ⟨rfl, rfl, rfl, rfl, rfl, rfl⟩
  · exact ⟨rfl, rfl, rfl, rfl, rfl, rfl⟩
  · exact ⟨rfl, rfl, rfl, rfl, rfl, rfl⟩
  · exact calm_setWatch s _ _ _ _
  · exact calm_traceArm s _ _
  · exact calm_traceRead s _ _
  · exact calm_openWindow s _ _
  · exact calm_putText s _ _
  · exact calm_setStrip s _
  · exact .refl s
  · contradiction
  · exact .refl s

end

/-! ### Every command -/

/-- What comes on a port while its SEL is low, bit by bit or unit by unit (R169 to R176). -/
inductive Traffic (p : Port) : (State → State) → Prop
  | kind0 (code : Byte) : Traffic p (State.kind0Unit p code)
  | kind1 (b : Byte) : Traffic p (State.kind1Unit p b)
  | clock (d : Bool) : Traffic p (State.clockEdge p d)
  | contended : Traffic p (State.contendedClock p)
  | whole (code : Byte) (bs : List Byte) : Traffic p fun t => (t.kind0Unit p code).kind1Units p bs

/-- What a command does in `s` that waits for the release of RESET: a calm event, a line update, an order on a port, or a port's
traffic. -/
inductive Deed (s : State) : (State → State) → Prop
  | event {f : State → State} (calm : s.Calm (f s)) : Deed s f
  | lineUpdate : Deed s State.lineUpdate
  | order (p : Port) {order : State → Answer} (calm : ∀ t : State, t.Calm (order t).state) : Deed s (State.takeOrder p order)
  | readMessage (p : Port) : Deed s (State.takeOrder p (orderReadMessage p))
  | linkReset (p : Port) : Deed s (State.takeOrder p (orderLinkReset p))
  | units (p : Port) {f : State → State} (traffic : Traffic p f) : Deed s (State.whileSelected p f)

/-- Every command but device reset, its release and the edges of SEL waits for the release of RESET (00 0.5). -/
theorem exec_eq_live {c : Instr} (noReset : c ≠ .deviceReset) (noRelease : c ≠ .resetRelease)
    (noEdge : ∀ p, c ≠ .selRise p ∧ c ≠ .selFall p) (s : State) : ∃ f, exec c s = live s f ∧ Deed s f := by
  cases c with
  | deviceReset => exact absurd rfl noReset
  | resetRelease => exact absurd rfl noRelease
  | selRise p => exact absurd rfl (noEdge p).1
  | selFall p => exact absurd rfl (noEdge p).2
  | receivedSampleSet bits => exact ⟨_, rfl, .event (calm_receiveFrame s bits)⟩
  | pacePulse => exact ⟨_, rfl, .event (calm_pacePulse s)⟩
  | sampleLoss => exact ⟨_, rfl, .event (calm_sampleLoss s)⟩
  | lineSampleTick levels => exact ⟨_, rfl, .event (calm_lineTick s levels)⟩
  | lineUpdate => exact ⟨_, rfl, .lineUpdate⟩
  | windowTimerExpiry => exact ⟨_, rfl, .event (calm_windowTimeout s)⟩
  | dwellTimerExpiry => exact ⟨_, rfl, .event (calm_dwellExpiry s)⟩
  | holdLapse => exact ⟨_, rfl, .event (calm_holdLapse s)⟩
  | refreshExpiry => exact ⟨_, rfl, .event (calm_refresh s)⟩
  | stripFrameSent => exact ⟨_, rfl, .event ⟨rfl, rfl, rfl, rfl, rfl, rfl⟩⟩
  | blinkToggle => exact ⟨_, rfl, .event (calm_blinkToggle s)⟩
  | advisoryHoldExpiry => exact ⟨_, rfl, .event (calm_advisoryExpiry s)⟩
  | loadDurationTick => exact ⟨_, rfl, .event (calm_loadSecond s)⟩
  | shiftDurationTick => exact ⟨_, rfl, .event (calm_shiftSecond s)⟩
  | stray p u => exact ⟨_, rfl, .units p (.kind1 u)⟩
  | badOrder p u => exact ⟨_, rfl, .units p (.kind0 u)⟩
  | parameterUnit p u => exact ⟨_, rfl, .units p (.kind1 u)⟩
  | orderUnit p u => exact ⟨_, rfl, .units p (.kind0 u)⟩
  | contention p => exact ⟨_, rfl, .units p .contended⟩
  | replyClock p d => exact ⟨_, rfl, .units p (.clock d)⟩
  | run p => exact ⟨_, rfl, .order p fun t => calm_run t⟩
  | stop p => exact ⟨_, rfl, .order p fun t => calm_stop t⟩
  | readLive p => exact ⟨_, rfl, .order p .refl⟩
  | readOpenLoad p => exact ⟨_, rfl, .order p .refl⟩
  | setTarget p w => exact ⟨_, rfl, .order p fun t => calm_setTarget t p w⟩
  | setNext p n w => exact ⟨_, rfl, .order p fun t => calm_setNext t p n w⟩
  | closeLoad p => exact ⟨_, rfl, .order p fun t => calm_closeLoad t⟩
  | collectLoad p => exact ⟨_, rfl, .order p fun t => State.Calm.of_eq (orderCollectLoad_state t)⟩
  | releaseLoad p n => exact ⟨_, rfl, .order p fun t => calm_releaseLoad t n⟩
  | readShift p => exact ⟨_, rfl, .order p .refl⟩
  | shiftEnd p => exact ⟨_, rfl, .order p fun t => calm_shiftEnd t⟩
  | readSettingsSample p => exact ⟨_, rfl, .order p .refl⟩
  | readSettingsWeigh p => exact ⟨_, rfl, .order p .refl⟩
  | readSettingsCycle p => exact ⟨_, rfl, .order p .refl⟩
  | readSettingsLoad p => exact ⟨_, rfl, .order p .refl⟩
  | readSettingsLines p => exact ⟨_, rfl, .order p .refl⟩
  | readSettingsStrip p => exact ⟨_, rfl, .order p .refl⟩
  | writeSettingsSample p r => exact ⟨_, rfl, .order p fun t => calm_writeSample t r⟩
  | writeSettingsWeigh p w => exact ⟨_, rfl, .order p fun t => calm_writeWeigh t p w⟩
  | writeSettingsCycle p w => exact ⟨_, rfl, .order p fun t => calm_writeCycle t p w⟩
  | writeSettingsLoad p w => exact ⟨_, rfl, .order p fun t => calm_writeLoad t w⟩
  | writeSettingsLines p w => exact ⟨_, rfl, .order p fun t => calm_writeLines t w⟩
  | writeSettingsStrip p w => exact ⟨_, rfl, .order p fun t => calm_writeStrip t w⟩
  | readMaterial p i => exact ⟨_, rfl, .order p fun t => State.Calm.of_eq (orderReadMaterial_state i t)⟩
  | writeMaterial p w => exact ⟨_, rfl, .order p fun t => calm_writeMaterial t w⟩
  | takeHold p => exact ⟨_, rfl, .order p fun t => calm_takeHold t p⟩
  | dropHold p => exact ⟨_, rfl, .order p fun t => calm_dropHold t p⟩
  | calTare p => exact ⟨_, rfl, .order p fun t => calm_calTare t p⟩
  | calLoaded p m => exact ⟨_, rfl, .order p fun t => calm_calLoaded t p m⟩
  | calZero p => exact ⟨_, rfl, .order p fun t => calm_calZero t p⟩
  | calAbort p => exact ⟨_, rfl, .order p fun t => calm_calAbort t p⟩
  | readTable p => exact ⟨_, rfl, .order p .refl⟩
  | writeTable p w => exact ⟨_, rfl, .order p fun t => calm_writeTable t p w⟩
  | depositMessage p l f bs => exact ⟨_, rfl, .units p (.whole depositCode (l :: f :: bs))⟩
  | putText p l cs => exact ⟨_, rfl, .units p (.whole textCode (l :: cs))⟩
  | readMessage p => exact ⟨_, rfl, .readMessage p⟩
  | topNotice p => exact ⟨_, rfl, .order p .refl⟩
  | readNotices p => exact ⟨_, rfl, .order p .refl⟩
  | clearNotices p m => exact ⟨_, rfl, .order p fun _ => ⟨rfl, rfl, rfl, rfl, rfl, rfl⟩⟩
  | enableNotices p m => exact ⟨_, rfl, .order p fun _ => ⟨rfl, rfl, rfl, rfl, rfl, rfl⟩⟩
  | lineState p => exact ⟨_, rfl, .order p fun _ => ⟨rfl, rfl, rfl, rfl, rfl, rfl⟩⟩
  | setWatch p m c d => exact ⟨_, rfl, .order p fun t => calm_setWatch t p m c d⟩
  | traceArm p m => exact ⟨_, rfl, .order p fun t => calm_traceArm t p m⟩
  | traceRead p n => exact ⟨_, rfl, .order p fun t => calm_traceRead t p n⟩
  | openWindow p w => exact ⟨_, rfl, .order p fun t => calm_openWindow t p w⟩
  | setStrip p b => exact ⟨_, rfl, .order p fun t => calm_setStrip t b⟩
  | portStatus p => exact ⟨_, rfl, .order p .refl⟩
  | linkReset p => exact ⟨_, rfl, .linkReset p⟩

end Sys2Proof.Machine
end

section
/-! Every command completes; the waiting commands stay, and so does whether RESET holds the part (00 0.5). -/

namespace Sys2Proof.Machine

open Sys2Proof

/-- From `s` to `t` the hold of RESET and the waiting commands stay. -/
structure State.Attends (s t : State) : Prop where
  held : t.held = s.held
  pending : t.pending = s.pending

theorem State.Calm.attends {s t : State} (h : s.Calm t) : s.Attends t := ⟨h.held, h.pending⟩

theorem State.Attends.refl (s : State) : s.Attends s := ⟨rfl, rfl⟩

theorem State.Attends.trans {s t u : State} (h : s.Attends t) (k : t.Attends u) : s.Attends u :=
  ⟨k.held.trans h.held, k.pending.trans h.pending⟩

section

variable {s : State} {p : Port}

/-! ### Orders and units -/

theorem attends_answered (r : ResultCode) (b : List Byte) (t : State) : t.Attends (t.answered p r b) := ⟨rfl, rfl⟩

theorem attends_abandon (t : State) : t.Attends (t.abandon p) := by
  obtain ⟨_, _, _, _, _, e⟩ := State.abandon_frame p t
  rw [e]; exact ⟨rfl, rfl⟩

theorem attends_restartHold (t : State) : t.Attends (t.restartHold p) := by
  obtain ⟨_, e⟩ := State.restartHold_frame p t
  rw [e]; exact ⟨rfl, rfl⟩

theorem attends_readMessage (t : State) : t.Attends (orderReadMessage p t).state := by
  obtain ⟨_, _, _, e⟩ := orderReadMessage_frame p t
  rw [e]; exact ⟨rfl, rfl⟩

theorem attends_linkReset (t : State) : t.Attends (orderLinkReset p t).state := by
  obtain ⟨_, _, _, _, _, _, _, _, _, _, e⟩ := orderLinkReset_frame p t
  rw [e]; exact ⟨rfl, rfl⟩

theorem attends_orderOf (code : Byte) (ps : List Byte) (t : State) : t.Attends (orderOf p code ps t).state := by
  by_cases deposit : code.toNat = 0x20
  · obtain rfl : code = 0x20 := BitVec.eq_of_toNat_eq deposit
    exact ⟨rfl, rfl⟩
  by_cases read : code.toNat = 0x21
  · obtain rfl : code = 0x21 := BitVec.eq_of_toNat_eq read
    exact attends_readMessage t
  by_cases reset : code.toNat = 0x3F
  · obtain rfl : code = 0x3F := BitVec.eq_of_toNat_eq reset
    exact attends_linkReset t
  exact (calm_orderOf t p ps deposit read reset).attends

theorem attends_take {order : State → Answer} (h : s.Attends (order s).state) : s.Attends (s.take p order) := by
  rw [State.take_eq_answered]; exact h.trans (attends_answered _ _ _)

theorem attends_takeOrder {order : State → Answer} (h : ∀ t : State, t.Attends (order t).state) :
    s.Attends (s.takeOrder p order) :=
  State.takeOrder_keeps (P := s.Attends) (.refl s) (fun t k => k.trans (attends_abandon t)) (fun t k => k.trans (h t))
    fun t r b k => k.trans (attends_answered r b t)

theorem attends_settle (o : Pending) (r : ResultCode) (b : List Byte) (t : State) : t.Attends (t.settle p o r b) :=
  (attends_restartHold t).trans ⟨rfl, rfl⟩

theorem attends_beginOrder (code : Byte) (t : State) : t.Attends (t.beginOrder p code) := by
  unfold State.beginOrder
  split
  · exact (attends_restartHold t).trans ⟨rfl, rfl⟩
  · exact attends_take (attends_orderOf code [] t)
  · exact ⟨rfl, rfl⟩
  · exact ⟨rfl, rfl⟩
  · split
    · exact attends_settle _ _ _ t
    · exact ⟨rfl, rfl⟩

theorem attends_kind0Unit (code : Byte) (t : State) : t.Attends (t.kind0Unit p code) := by
  unfold State.kind0Unit
  split
  · exact attends_beginOrder code t
  · exact (attends_abandon t).trans (attends_beginOrder code _)
  · exact .refl t
  · exact .refl t

theorem attends_kind1Unit (b : Byte) (t : State) : t.Attends (t.kind1Unit p b) := by
  unfold State.kind1Unit
  dsimp only
  split
  · exact ⟨rfl, rfl⟩
  · split
    · exact .refl t
    · split
      · unfold State.passOver
        split
        · exact ⟨rfl, rfl⟩
        · split <;> exact ⟨rfl, rfl⟩
      · unfold State.parameter
        split
        · unfold State.lengthUnit
          dsimp only
          split
          · exact .trans (t := { t with ex.deposits := t.ex.deposits.set p none }) ⟨rfl, rfl⟩ (attends_settle _ _ _ _)
          · exact ⟨rfl, rfl⟩
        · dsimp only
          split
          · exact attends_take (attends_orderOf _ _ t)
          · unfold State.countDeposit
            split <;> exact ⟨rfl, rfl⟩
  · exact .refl t
  · exact .refl t

theorem attends_kind1Units (bs : List Byte) : ∀ t : State, t.Attends (t.kind1Units p bs) := by
  induction bs with
  | nil => exact .refl
  | cons b bs ih => exact fun t => (attends_kind1Unit b t).trans (ih _)

theorem attends_replyEdge (d : Bool) (t : State) : t.Attends (t.replyEdge p d) := by
  unfold State.replyEdge
  dsimp only
  split <;> exact ⟨rfl, rfl⟩

theorem attends_clockEdge (d : Bool) (t : State) : t.Attends (t.clockEdge p d) := by
  have bit : t.Attends (t.sampleBit p d) := by
    unfold State.sampleBit
    dsimp only
    split
    · exact ⟨rfl, rfl⟩
    · unfold State.completeUnit
      dsimp only
      split
      · exact attends_kind1Unit _ t
      · exact attends_kind0Unit _ t
  unfold State.clockEdge
  split
  · exact bit
  · exact bit
  · exact attends_replyEdge d t
  · exact .refl t

theorem attends_contendedClock (t : State) : t.Attends (t.contendedClock p) := by
  unfold State.contendedClock
  split
  · exact attends_replyEdge false t
  · exact .refl t

theorem attends_whileSelected {f : State → State} (h : s.Attends (f s)) : s.Attends (s.whileSelected p f) :=
  State.whileSelected_keeps (P := s.Attends) (.refl s) fun _ => h

theorem attends_lineUpdate (t : State) : t.Attends t.lineUpdate := by
  obtain ⟨_, _, _, _, _, _, _, _, _, _, _, _, _, _, _, e⟩ := State.lineUpdate_frame t
  rw [e]; exact ⟨rfl, rfl⟩

end

/-! ### Every command -/

/-- Whatever a command does that waits for the release of RESET, the hold and the queue stay. -/
theorem Deed.attends {s : State} {f : State → State} (h : Deed s f) : s.Attends (f s) := by
  cases h with
  | event calm => exact calm.attends
  | lineUpdate => exact attends_lineUpdate s
  | order p calm => exact attends_takeOrder fun t => (calm t).attends
  | readMessage p => exact attends_takeOrder attends_readMessage
  | linkReset p => exact attends_takeOrder attends_linkReset
  | units p traffic =>
    refine attends_whileSelected ?_
    cases traffic with
    | kind0 code => exact attends_kind0Unit code s
    | kind1 b => exact attends_kind1Unit b s
    | clock d => exact attends_clockEdge d s
    | contended => exact attends_contendedClock s
    | whole code bs => exact (attends_kind0Unit code s).trans (attends_kind1Units bs _)

theorem pending_resetRelease (s : State) : s.resetRelease.pending = s.pending := by
  unfold State.resetRelease; split <;> rfl

/-- Settles O5: an edge of SEL acts on its port, and of the rest every command but DEVICE_RESET and its release waits for RESET. -/
theorem everyCommandCompletes : Obligations.EveryCommandCompletes := by
  unfold Obligations.EveryCommandCompletes
  intro c s
  by_cases edge : ∃ p, c = .selRise p ∨ c = .selFall p
  · obtain ⟨p, rfl | rfl⟩ := edge
    · refine ⟨_, rfl, rfl, fun _ _ => ⟨rfl, fun _ no => absurd rfl (no p).1, ?_⟩⟩
      rintro q (same | ⟨⟨⟩⟩)
      cases same
      simp [State.setPort]
    · refine ⟨_, rfl, rfl, fun _ _ => ⟨rfl, fun _ no => absurd rfl (no p).2, ?_⟩⟩
      rintro q (⟨⟨⟩⟩ | same)
      cases same
      simp [State.setPort]
  have noEdge : ∀ p, c ≠ .selRise p ∧ c ≠ .selFall p := fun p => ⟨fun e => edge ⟨p, .inl e⟩, fun e => edge ⟨p, .inr e⟩⟩
  by_cases reset : c = .deviceReset
  · subst reset
    exact ⟨_, rfl, rfl, fun no => absurd rfl no⟩
  by_cases release : c = .resetRelease
  · subst release
    exact ⟨_, rfl, pending_resetRelease s, fun _ no => absurd rfl no⟩
  obtain ⟨f, lives, deed⟩ := exec_eq_live reset release noEdge s
  have attends := deed.attends
  have noEdgeHere : ∀ (t : State) p, c = .selRise p ∨ c = .selFall p → t = { s with ports := s.ports.set p (t.ports.get p) } :=
    fun t p e => absurd ⟨p, e⟩ edge
  by_cases held : s.held = true
  · exact ⟨s, lives.trans (live_held f held), rfl, fun _ _ => ⟨rfl, fun _ _ => rfl, noEdgeHere s⟩⟩
  · exact ⟨f s, lives.trans (live_not_held f (Bool.eq_false_of_not_eq_true held)), attends.pending,
      fun _ _ => ⟨attends.held, fun h => absurd h held, noEdgeHere _⟩⟩

end Sys2Proof.Machine
end

section
/-! Every step keeps the ports and the message slots sound (Table 10-2, R159, R160). A port's own items and the mail are kept apart:
`State.Answerable` says what a port may rest on while one of its orders is executed. -/

namespace Sys2Proof.Machine

open Sys2Proof

/-! ### One port, and the mail -/

/-- The messages and the store order are sound (R159). -/
def State.MailSound (s : State) : Prop :=
  (∀ p m, s.ex.slots.get p = some m → m.sound) ∧ s.ex.storeOrder.Nodup
    ∧ ∀ p, p ∈ s.ex.storeOrder ↔ (s.ex.slots.get p).isSome

/-- Port `p` is sound, and so is its current order against its slot and its deposit. -/
def State.PortSound (p : Port) (s : State) : Prop :=
  (s.ports.get p).sound ∧ depositSound (s.ports.get p) (s.ex.slots.get p) (s.ex.deposits.get p)

theorem forall_port_iff (p : Port) (P : Port → Prop) : (∀ q, P q) ↔ P p ∧ P (other p) := by
  constructor
  · exact fun h => ⟨h p, h (other p)⟩
  · rintro ⟨own, far⟩ q
    cases p <;> cases q <;> assumption

theorem State.exchangeSound_iff (p : Port) (s : State) :
    s.exchangeSound ↔ s.PortSound p ∧ s.PortSound (other p) ∧ s.MailSound := by
  unfold State.exchangeSound State.PortSound State.MailSound
  rw [forall_port_iff p fun q => (s.ports.get q).sound,
    forall_port_iff p fun q => depositSound (s.ports.get q) (s.ex.slots.get q) (s.ex.deposits.get q)]
  constructor
  · rintro ⟨⟨own, far⟩, ⟨ownDeposit, farDeposit⟩, mail⟩
    exact ⟨⟨own, ownDeposit⟩, ⟨far, farDeposit⟩, mail⟩
  · rintro ⟨⟨own, ownDeposit⟩, ⟨far, farDeposit⟩, mail⟩
    exact ⟨⟨own, far⟩, ⟨ownDeposit, farDeposit⟩, mail⟩

theorem State.exchangeSound_calm {s t : State} (h : s.exchangeSound) (k : s.Calm t) : t.exchangeSound := by
  unfold State.exchangeSound at h ⊢
  rwa [k.ports, k.slots, k.storeOrder, k.deposits]

/-- The state with port `p` replaced by `q`, and its deposit by `d`. -/
theorem State.exchangeSound_setPort {s : State} {p : Port} (far : s.PortSound (other p)) (mail : s.MailSound) {q : Lp}
    {d : Option Nat} (sound : q.sound) (deposit : depositSound q (s.ex.slots.get p) d) :
    (State.setPort p q { s with ex.deposits := s.ex.deposits.set p d }).exchangeSound := by
  rw [State.exchangeSound_iff p]
  refine ⟨?_, ?_, mail⟩
  · simp only [State.PortSound, State.setPort, PerPort.get_set_same]
    exact ⟨sound, deposit⟩
  · simpa only [State.PortSound, State.setPort, PerPort.get_set_other] using far

theorem State.exchangeSound_setPort_only {s : State} {p : Port} (far : s.PortSound (other p)) (mail : s.MailSound) {q : Lp}
    (sound : q.sound) (deposit : depositSound q (s.ex.slots.get p) (s.ex.deposits.get p)) :
    (s.setPort p q).exchangeSound := by
  have h := State.exchangeSound_setPort far mail sound deposit
  rwa [PerPort.set_get] at h

/-! ### A port whose order is executed -/

/-- SEL of port `p` is low, its counts are in range, no deposit of its is in progress, and all else is sound. -/
structure State.Answerable (p : Port) (s : State) : Prop where
  selected : (s.ports.get p).selected = true
  strays : (s.ports.get p).strays ≤ 255
  contentions : (s.ports.get p).contentions ≤ 255
  noDeposit : s.ex.deposits.get p = none
  far : s.PortSound (other p)
  mail : s.MailSound

section

variable {s : State} {p : Port}

theorem State.Answerable.calm {t : State} (h : s.Answerable p) (k : s.Calm t) : t.Answerable p where
  selected := by rw [k.ports]; exact h.selected
  strays := by rw [k.ports]; exact h.strays
  contentions := by rw [k.ports]; exact h.contentions
  noDeposit := by rw [k.deposits]; exact h.noDeposit
  far := by
    have far := h.far
    unfold State.PortSound at far ⊢
    rwa [k.ports, k.slots, k.deposits]
  mail := by
    have mail := h.mail
    unfold State.MailSound at mail ⊢
    rwa [k.slots, k.storeOrder]

/-- The answer to an order leaves the port sound (R171). -/
theorem State.Answerable.answered (h : s.Answerable p) (r : ResultCode) (b : List Byte) : (s.answered p r b).exchangeSound :=
  State.exchangeSound_setPort_only (s := { s with
      ex.holdTimer := if s.ex.hold = some p then .started else s.ex.holdTimer }) h.far h.mail
    ⟨Nat.zero_le _, fun _ => rfl, h.strays, h.contentions, h.selected, rfl, rfl, rfl, _, rfl, Nat.zero_le _⟩ h.noDeposit

theorem State.Answerable.take {order : State → Answer} (h : (order s).state.Answerable p) : (s.take p order).exchangeSound := by
  rw [State.take_eq_answered]; exact h.answered _ _

/-- In EXPECT_ORDER there is no order, and so no deposit (Table 10-2). -/
theorem State.exchangeSound.answerable (h : s.exchangeSound) (selected : (s.ports.get p).selected = true)
    (frame : (s.ports.get p).frame = .expectOrder) : s.Answerable p := by
  obtain ⟨⟨⟨-, -, strays, contentions, items⟩, deposit⟩, far, mail⟩ := (State.exchangeSound_iff p s).1 h
  rw [frame] at items
  obtain ⟨noOrder, -, -⟩ := items
  unfold depositSound at deposit
  rw [noOrder] at deposit
  exact ⟨selected, strays, contentions, deposit, far, mail⟩

/-! ### Messages -/

/-- A message is stored in an EMPTY slot (R159 to R161). -/
theorem State.mailSound_store {m : Message} (h : s.MailSound) (empty : s.ex.slots.get p = none) (sound : m.sound) :
    (s.storeMessage p m).MailSound := by
  obtain ⟨sounds, distinct, listed⟩ := h
  have unlisted : p ∉ s.ex.storeOrder := by rw [listed, empty]; decide
  refine ⟨fun q n stored => ?_, ?_, fun q => ?_⟩
  · simp only [State.storeMessage, State.raise, PerPort.get_set] at stored
    split at stored
    · cases stored; exact sound
    · exact sounds q n stored
  · exact List.nodup_append.2 ⟨distinct, List.nodup_singleton p, fun x hx y hy e => by
      rw [List.mem_singleton.1 hy] at e; exact unlisted (e ▸ hx)⟩
  · simp only [State.storeMessage, State.raise, PerPort.get_set, List.mem_append, List.mem_singleton]
    split
    next own => simp [own]
    next far => rw [listed]; simp [far]

/-- The other port's items do not notice a message stored. -/
theorem State.portSound_store {m : Message} (h : s.PortSound (other p)) : (s.storeMessage p m).PortSound (other p) := by
  simpa only [State.PortSound, State.storeMessage, State.raise, PerPort.get_set_other] using h

/-- What is left of a deposit that is abandoned: no deposit, and the mail sound (R161). -/
theorem State.abandonDeposit_sound (h : s.exchangeSound) :
    (s.abandonDeposit p (s.ports.get p).paramsTaken).ports = s.ports
      ∧ (s.abandonDeposit p (s.ports.get p).paramsTaken).ex.deposits.get p = none
      ∧ (s.abandonDeposit p (s.ports.get p).paramsTaken).PortSound (other p)
      ∧ (s.abandonDeposit p (s.ports.get p).paramsTaken).MailSound := by
  obtain ⟨⟨-, deposit⟩, far, mail⟩ := (State.exchangeSound_iff p s).1 h
  unfold State.abandonDeposit
  split
  next none => exact ⟨rfl, none, far, mail⟩
  next k some =>
    split
    · exact ⟨rfl, by simp, by simpa only [State.PortSound, PerPort.get_set_other] using far, mail⟩
    next positive =>
      have stored : s.ex.slots.get p = .none ∧ Message.sound
          ⟨(s.ports.get p).paramsTaken.drop 2, showOf (s.ports.get p).paramsTaken, true, false⟩ := by
        unfold depositSound at deposit
        split at deposit
        · rw [some] at deposit; cases deposit
        next o order =>
          have taken : (s.ports.get p).paramsTaken = o.params := by simp only [Lp.paramsTaken, order]
          rw [taken]
          split at deposit
          · rw [some] at deposit; cases deposit
          · obtain ⟨empty, count, length⟩ := deposit
            rw [some] at count
            have counted : k = o.params.length - 2 := Option.some.inj count
            refine ⟨empty, ?_⟩
            unfold Message.sound
            simp only [List.length_drop]
            split at length
            · simp [length] at counted; omega
            · omega
      exact ⟨rfl, by simp [State.storeMessage, State.raise], State.portSound_store far,
        State.mailSound_store mail stored.1 stored.2⟩

/-- An order abandoned, or a reply forfeited: the frame is in EXPECT_ORDER (R174). -/
theorem State.exchangeSound.abandon (h : s.exchangeSound) (frame : (s.ports.get p).frame = .params) :
    (s.abandon p).exchangeSound ∧ ((s.abandon p).ports.get p).frame = .expectOrder
      ∧ ((s.abandon p).ports.get p).selected = true := by
  obtain ⟨⟨⟨-, -, strays, contentions, items⟩, deposit⟩, far, mail⟩ := (State.exchangeSound_iff p s).1 h
  rw [frame] at items
  obtain ⟨selected, -, -, -⟩ := items
  unfold State.abandon
  dsimp only
  split
  next ended =>
    have noDeposit : s.ex.deposits.get p = none := by
      unfold depositSound at deposit
      split at deposit
      · exact deposit
      · rwa [if_pos (Or.inl ended)] at deposit
    refine ⟨State.exchangeSound_setPort_only far mail ⟨Nat.zero_le _, fun _ => rfl, strays, contentions, rfl, rfl, rfl⟩ noDeposit,
      ?_, ?_⟩ <;> simp [State.setPort, selected]
  next open_ =>
    have unsettled : (s.ports.get p).ended = false := Bool.eq_false_of_not_eq_true open_
    obtain ⟨-, none, far, mail⟩ := State.abandonDeposit_sound h (p := p)
    refine ⟨State.exchangeSound_setPort_only far mail ⟨Nat.zero_le _, fun _ => rfl, strays, contentions, rfl, unsettled, rfl⟩ none,
      ?_, ?_⟩ <;> simp [State.setPort, selected]

/-- No deposit is in progress into a FULL slot, whatever becomes of the slot (R160). -/
theorem depositSound_of_full {q : Lp} {m : Message} {d : Option Nat} (h : depositSound q (some m) d) (slot : Option Message) :
    depositSound q slot d := by
  unfold depositSound at h ⊢
  rcases order : q.order with _ | o <;> rw [order] at h
  · exact h
  · dsimp only at h ⊢
    split at h
    next settled => rwa [if_pos settled]
    · cases h.1

/-! ### What the orders leave (R162, R178) -/

theorem State.Answerable.readMessage (h : s.Answerable p) : (orderReadMessage p s).state.Answerable p := by
  obtain ⟨sounds, distinct, listed⟩ := h.mail
  unfold orderReadMessage
  split
  · exact h
  next m full =>
    refine ⟨h.selected, h.strays, h.contentions, h.noDeposit, ?_, fun q n stored => ?_, distinct.filter _, fun q => ?_⟩
    · obtain ⟨sound, deposit⟩ := h.far
      rw [full] at deposit
      exact ⟨sound, depositSound_of_full deposit _⟩
    · simp only [State.raise, PerPort.get_set] at stored
      split at stored
      · cases stored
      · exact sounds q n stored
    · simp only [State.raise, PerPort.get_set, List.mem_filter, bne_iff_ne]
      split
      next own => simp [own]
      next far => rw [listed]; simp [far]

theorem State.Answerable.linkReset (h : s.Answerable p) : (orderLinkReset p s).state.Answerable p := by
  have lost : ∀ t : State, t.Calm (t.resetHold p) := fun t => by
    unfold State.resetHold
    split
    · obtain ⟨_, _, _, _, _, e⟩ := State.loseHold_frame t
      rw [e]; exact ⟨rfl, rfl, rfl, rfl, rfl, rfl⟩
    · exact .refl t
  have cancelled : ∀ t : State, t.Calm (t.resetTrace p) := fun t => by
    unfold State.resetTrace
    split
    · exact ⟨rfl, rfl, rfl, rfl, rfl, rfl⟩
    · exact .refl t
  have replaced : ∀ (t : State) (q : Lp), t.Answerable p → q.selected = true → q.strays ≤ 255 → q.contentions ≤ 255 →
      (t.setPort p q).Answerable p := fun t q k selected strays contentions => by
    refine ⟨?_, ?_, ?_, k.noDeposit, ?_, k.mail⟩
    · simpa [State.setPort] using selected
    · simpa [State.setPort] using strays
    · simpa [State.setPort] using contentions
    · simpa only [State.PortSound, State.setPort, PerPort.get_set_other] using k.far
  have unordered := replaced s { s.ports.get p with order := none, ended := false } h h.selected h.strays h.contentions
  have released := (unordered.calm (lost _)).calm (cancelled _)
  refine replaced _ _ ?_ ?_ (Nat.zero_le _) (Nat.zero_le _)
  · exact released.calm ⟨rfl, rfl, rfl, rfl, rfl, rfl⟩
  · exact released.selected

/-- Every order of Table 11-3 but a deposit, which is never executed here. -/
theorem State.Answerable.orderOf (h : s.Answerable p) {code : Byte} (ps : List Byte) (noDeposit : code ≠ depositCode) :
    (Machine.orderOf p code ps s).state.Answerable p := by
  by_cases read : code.toNat = 0x21
  · obtain rfl : code = 0x21 := BitVec.eq_of_toNat_eq read
    exact h.readMessage
  by_cases reset : code.toNat = 0x3F
  · obtain rfl : code = 0x3F := BitVec.eq_of_toNat_eq reset
    exact h.linkReset
  exact h.calm (calm_orderOf s p ps (fun e => noDeposit (BitVec.eq_of_toNat_eq e)) read reset)

/-! ### Kind-0 units (R170, R174) -/

theorem callsOf_eq_deposit_iff : ∀ code : Byte, callsOf code = some .deposit ↔ code = depositCode := by decide

theorem callsOf_fixed_pos {code : Byte} {n : Nat} (calls : callsOf code = some (.fixed n)) : code ≠ depositCode := fun e => by
  rw [(callsOf_eq_deposit_iff code).2 e] at calls; cases calls

/-- The items of a port in EXPECT_ORDER, its SEL low. -/
theorem Lp.sound_expectOrder {q : Lp} (h : q.sound) (frame : q.frame = .expectOrder) :
    q.order = none ∧ q.ended = false ∧ q.reply = none ∧ q.strays ≤ 255 ∧ q.contentions ≤ 255 := by
  obtain ⟨-, -, strays, contentions, items⟩ := h
  rw [frame] at items
  obtain ⟨order, ended, reply⟩ := items
  exact ⟨order, ended, reply, strays, contentions⟩

theorem depositSound_other (q : Lp) (o : Pending) (h : q.ended = true ∨ o.code ≠ depositCode) (slot : Option Message) :
    depositSound { q with shift := [], order := some o } slot none := by
  unfold depositSound
  dsimp only
  rw [if_pos h]

/-- An order settled before its last parameter (R172). -/
theorem State.Answerable.settle (h : s.Answerable p) (o : Pending) (r : ResultCode) (b : List Byte) :
    (s.settle p o r b).exchangeSound := by
  obtain ⟨_, e⟩ := State.restartHold_frame p s
  unfold State.settle
  dsimp only
  rw [e]
  have none := h.noDeposit
  refine State.exchangeSound_setPort_only (s := { s with ex.holdTimer := _ }) h.far h.mail ?_ ?_
  · exact ⟨Nat.zero_le _, fun _ => rfl, h.strays, h.contentions, h.selected, rfl, by simp, by rintro _ ⟨⟩; rfl⟩
  · rw [none]; exact depositSound_other { s.ports.get p with ended := true } o (Or.inl rfl) _

theorem State.exchangeSound.beginOrder (h : s.exchangeSound) (selected : (s.ports.get p).selected = true)
    (frame : (s.ports.get p).frame = .expectOrder) (code : Byte) : (s.beginOrder p code).exchangeSound := by
  have ready := h.answerable selected frame
  obtain ⟨⟨sound, -⟩, far, mail⟩ := (State.exchangeSound_iff p s).1 h
  obtain ⟨order, ended, reply, strays, contentions⟩ := Lp.sound_expectOrder sound frame
  have begins : ∀ due, code ≠ depositCode → (s.beginParams p code due).exchangeSound := fun due other =>
    State.exchangeSound_setPort_only far mail
      ⟨Nat.zero_le _, fun _ => rfl, strays, contentions, selected, rfl, by simp [reply], by simp [reply]⟩
      (by
        rw [ready.noDeposit]
        exact depositSound_other { s.ports.get p with ended := false } ⟨code, [], due⟩ (Or.inr other) _)
  unfold State.beginOrder
  split
  · obtain ⟨_, e⟩ := State.restartHold_frame p s
    unfold State.answerBadOrder
    dsimp only
    rw [e]
    refine State.exchangeSound_setPort_only (s := { s with ex.holdTimer := _ }) far mail
      ⟨Nat.zero_le _, fun _ => rfl, strays, contentions, order, ended, reply⟩ ?_
    unfold depositSound
    rw [show (s.ports.get p).order = none from order]
    exact ready.noDeposit
  next calls => exact State.Answerable.take (ready.orderOf [] (callsOf_fixed_pos calls))
  next n calls => exact begins _ (callsOf_fixed_pos calls)
  next calls => exact begins _ fun e => by rw [(callsOf_eq_deposit_iff code).2 e] at calls; cases calls
  next calls =>
    obtain rfl := (callsOf_eq_deposit_iff code).1 calls
    split
    · exact ready.settle _ _ _
    next empty =>
      refine State.exchangeSound_setPort far mail
        ⟨Nat.zero_le _, fun _ => rfl, strays, contentions, selected, rfl, by simp [reply], by simp [reply]⟩ ?_
      unfold depositSound
      dsimp only
      rw [if_neg (by simp)]
      exact ⟨by simpa using empty, rfl, rfl⟩

theorem State.exchangeSound.kind0Unit (h : s.exchangeSound) (selected : (s.ports.get p).selected = true) (code : Byte) :
    (s.kind0Unit p code).exchangeSound := by
  unfold State.kind0Unit
  split
  next frame => exact h.beginOrder selected frame code
  next frame =>
    obtain ⟨abandoned, frame, selected⟩ := h.abandon frame
    exact abandoned.beginOrder selected frame code
  · exact h
  · exact h

/-! ### Kind-1 units (R170 to R172) -/

/-- The items of a port in PARAMS with the order `o`. -/
structure State.InParams (p : Port) (o : Pending) (s : State) : Prop where
  frame : (s.ports.get p).frame = .params
  order : (s.ports.get p).order = some o
  selected : (s.ports.get p).selected = true
  ended : (s.ports.get p).ended = true ↔ (s.ports.get p).reply.isSome
  start : ∀ r, (s.ports.get p).reply = some r → r.pos = 0
  strays : (s.ports.get p).strays ≤ 255
  contentions : (s.ports.get p).contentions ≤ 255
  deposit : depositSound (s.ports.get p) (s.ex.slots.get p) (s.ex.deposits.get p)
  far : s.PortSound (other p)
  mail : s.MailSound

theorem State.exchangeSound.inParams (h : s.exchangeSound) {o : Pending} (frame : (s.ports.get p).frame = .params)
    (order : (s.ports.get p).order = some o) : s.InParams p o := by
  obtain ⟨⟨⟨-, -, strays, contentions, items⟩, deposit⟩, far, mail⟩ := (State.exchangeSound_iff p s).1 h
  rw [frame] at items
  obtain ⟨selected, -, ended, start⟩ := items
  exact ⟨frame, order, selected, ended, start, strays, contentions, deposit, far, mail⟩

variable {o : Pending}

/-- The order and its deposit move on, the frame staying in PARAMS. -/
theorem State.InParams.keepParams (h : s.InParams p o) (o' : Pending) {d : Option Nat}
    (deposit : depositSound { s.ports.get p with shift := [], order := some o' } (s.ex.slots.get p) d) :
    (State.keepParams p o' { s with ex.deposits := s.ex.deposits.set p d }).exchangeSound :=
  State.exchangeSound_setPort h.far h.mail
    ⟨Nat.zero_le _, fun _ => rfl, h.strays, h.contentions, by
      show match (s.ports.get p).frame with | .expectOrder => _ | .params => _ | .paused => _ | .reply => _
      rw [h.frame]
      exact ⟨h.selected, rfl, h.ended, h.start⟩⟩ deposit

theorem State.InParams.keepParams_only (h : s.InParams p o) (o' : Pending)
    (deposit : depositSound { s.ports.get p with shift := [], order := some o' } (s.ex.slots.get p) (s.ex.deposits.get p)) :
    (s.keepParams p o').exchangeSound := by
  have kept := h.keepParams o' deposit
  rwa [PerPort.set_get] at kept

theorem State.InParams.noDeposit (h : s.InParams p o) (settled : (s.ports.get p).ended = true ∨ o.code ≠ depositCode) :
    s.ex.deposits.get p = none := by
  have deposit := h.deposit
  unfold depositSound at deposit
  rw [h.order] at deposit
  dsimp only at deposit
  rwa [if_pos settled] at deposit

/-- A deposit in progress: its slot is EMPTY and its count is that of the bytes taken (R160). -/
theorem State.InParams.inProgress (h : s.InParams p o) (open_ : (s.ports.get p).ended = false) (code : o.code = depositCode) :
    s.ex.slots.get p = none ∧ s.ex.deposits.get p = some (depositBytes o.params)
      ∧ match o.due with
        | none => o.params = []
        | some n => 1 ≤ n ∧ 1 ≤ o.params.length ∧ 3 ≤ o.params.length + n ∧ o.params.length + n ≤ 66 := by
  have deposit := h.deposit
  unfold depositSound at deposit
  rw [h.order] at deposit
  dsimp only at deposit
  rwa [if_neg (by simp [open_, code])] at deposit

theorem State.InParams.answerable (h : s.InParams p o) (other : o.code ≠ depositCode) : s.Answerable p :=
  ⟨h.selected, h.strays, h.contentions, h.noDeposit (Or.inr other), h.far, h.mail⟩

theorem State.InParams.passOver (h : s.InParams p o) (ended : (s.ports.get p).ended = true) (b : Byte) :
    (s.passOver p o b).exchangeSound := by
  have none := h.noDeposit (Or.inl ended)
  have kept : ∀ o', (s.keepParams p o').exchangeSound := fun o' =>
    h.keepParams_only o' (by rw [none]; exact depositSound_other _ o' (Or.inl ended) _)
  unfold State.passOver
  split
  · exact kept _
  · split
    · obtain ⟨r, reply⟩ := Option.isSome_iff_exists.1 (h.ended.1 ended)
      exact State.exchangeSound_setPort_only h.far h.mail
        ⟨Nat.zero_le _, fun _ => rfl, h.strays, h.contentions, h.selected, rfl, rfl, rfl, r, reply, by
          rw [h.start r reply]; exact Nat.zero_le _⟩ none
    · exact kept _

/-- The length unit, the first of a deposit or of a text (R152, R160, R172). -/
theorem State.InParams.lengthUnit (h : s.InParams p o) (open_ : (s.ports.get p).ended = false) (due : o.due = none) (b : Byte) :
    (s.lengthUnit p o b).exchangeSound := by
  unfold State.lengthUnit
  dsimp only
  split
  · have dropped : State.Answerable p { s with ex.deposits := s.ex.deposits.set p none } :=
      ⟨h.selected, h.strays, h.contentions, by simp, by
        simpa only [State.PortSound, PerPort.get_set_other] using h.far, h.mail⟩
    exact dropped.settle _ _ _
  next short =>
    refine h.keepParams_only _ ?_
    by_cases code : o.code = depositCode
    · obtain ⟨empty, count, begun⟩ := h.inProgress open_ code
      rw [due] at begun
      dsimp only at begun
      unfold depositSound
      dsimp only
      rw [if_neg (by simp [open_, code]), empty, count, begun]
      refine ⟨rfl, rfl, ?_⟩
      have bounds : 1 ≤ lengthCount b ∧ lengthCount b ≤ 64 := by
        unfold lengthCount
        split
        · decide
        next positive =>
          have : b.toNat ≠ 0 := fun e => positive (BitVec.eq_of_toNat_eq e)
          omega
      simp only [unitsAfterLength, code, if_true, List.nil_append, List.length_singleton]
      omega
    · rw [h.noDeposit (Or.inr code)]
      exact depositSound_other _ { o with params := o.params ++ [b], due := some (unitsAfterLength o.code b) } (Or.inr code) _

/-- The last message byte of a deposit: the message is stored (R160). -/
theorem State.InParams.lastByte (h : s.InParams p o) (open_ : (s.ports.get p).ended = false) (code : o.code = depositCode) {n : Nat}
    (due : o.due = some n) (last : n ≤ 1) (b : Byte) : (orderDeposit p (o.params ++ [b]) s).state.Answerable p := by
  obtain ⟨empty, -, length⟩ := h.inProgress open_ code
  rw [due] at length
  dsimp only at length
  refine ⟨h.selected, h.strays, h.contentions, by simp [orderDeposit, State.storeMessage, State.raise],
    State.portSound_store h.far, State.mailSound_store h.mail empty ?_⟩
  simp only [Message.sound, List.length_drop, List.length_append, List.length_singleton]
  omega

theorem State.InParams.parameter (h : s.InParams p o) (open_ : (s.ports.get p).ended = false) (b : Byte) :
    (s.parameter p o b).exchangeSound := by
  unfold State.parameter
  split
  next due => exact h.lengthUnit open_ due b
  next n due =>
    dsimp only
    split
    next last =>
      refine State.Answerable.take ?_
      by_cases code : o.code = depositCode
      · rw [code]; exact h.lastByte open_ code due last b
      · exact (h.answerable code).orderOf _ code
    next more =>
      unfold State.countDeposit
      by_cases code : o.code = depositCode
      · obtain ⟨empty, -, length⟩ := h.inProgress open_ code
        rw [due] at length
        dsimp only at length
        rw [if_pos (show o.code = depositCode from code)]
        refine h.keepParams _ ?_
        unfold depositSound
        dsimp only
        rw [if_neg (by simp [open_, code])]
        refine ⟨empty, rfl, ?_⟩
        simp only [List.length_append, List.length_singleton]
        omega
      · rw [if_neg (show ¬o.code = depositCode from code)]
        exact h.keepParams_only _ (by
          rw [h.noDeposit (Or.inr code)]
          exact depositSound_other _ { o with params := o.params ++ [b], due := some (n - 1) } (Or.inr code) _)

theorem State.exchangeSound.kind1Unit (h : s.exchangeSound) (b : Byte) : (s.kind1Unit p b).exchangeSound := by
  unfold State.kind1Unit
  dsimp only
  split
  next frame =>
    obtain ⟨⟨sound, deposit⟩, far, mail⟩ := (State.exchangeSound_iff p s).1 h
    obtain ⟨order, ended, reply, -, contentions⟩ := Lp.sound_expectOrder sound frame
    refine State.exchangeSound_setPort_only far mail ⟨Nat.zero_le _, fun _ => rfl, min_le_left _ _, contentions, ?_⟩ deposit
    show match (s.ports.get p).frame with | .expectOrder => _ | .params => _ | .paused => _ | .reply => _
    rw [frame]
    exact ⟨order, ended, reply⟩
  next frame =>
    split
    · exact h
    next o order =>
      have items := h.inParams frame order
      split
      next ended => exact items.passOver ended b
      next open_ => exact items.parameter (Bool.eq_false_of_not_eq_true open_) b
  · exact h
  · exact h

theorem exchangeSound_kind1Units (bs : List Byte) : ∀ {t : State}, t.exchangeSound → (t.kind1Units p bs).exchangeSound := by
  induction bs with
  | nil => exact fun h => h
  | cons b bs ih => exact fun h => ih (h.kind1Unit b)

/-! ### Clocks and edges (R169, R173, R175, R176) -/

/-- One clock of a reply (R175). -/
theorem Lp.sound_clockReply {q : Lp} (h : q.sound) (frame : q.frame = .reply) {c : Bool} {n : Nat} (count : n ≤ 255) :
    Lp.sound { q.clockReply with contentionSeen := c, contentions := n } := by
  obtain ⟨short, unselected, strays, -, items⟩ := h
  rw [frame] at items
  obtain ⟨selected, order, ended, shift, r, reply, pos⟩ := items
  unfold Lp.clockReply
  rw [reply]
  dsimp only
  split
  · exact ⟨Nat.zero_le _, fun _ => rfl, strays, count, order, ended, rfl⟩
  next more =>
    refine ⟨short, unselected, strays, count, ?_⟩
    show match q.frame with | .expectOrder => _ | .params => _ | .paused => _ | .reply => _
    rw [frame]
    exact ⟨selected, order, ended, shift, _, rfl, by show r.pos + 1 ≤ 8 * r.bytes.length; omega⟩

theorem Lp.clockReply_kept (q : Lp) :
    q.clockReply.order = q.order ∧ q.clockReply.contentionSeen = q.contentionSeen ∧ q.clockReply.contentions = q.contentions := by
  unfold Lp.clockReply
  split
  · exact ⟨rfl, rfl, rfl⟩
  · split <;> exact ⟨rfl, rfl, rfl⟩

theorem State.exchangeSound.replyEdge (h : s.exchangeSound) (frame : (s.ports.get p).frame = .reply) (d : Bool) :
    (s.replyEdge p d).exchangeSound := by
  obtain ⟨⟨sound, deposit⟩, far, mail⟩ := (State.exchangeSound_iff p s).1 h
  obtain ⟨order, seen, count⟩ := Lp.clockReply_kept (s.ports.get p)
  have noDeposit : ∀ q : Lp, q.order = (s.ports.get p).order → depositSound q (s.ex.slots.get p) (s.ex.deposits.get p) :=
    fun q same => by
      obtain ⟨-, -, -, -, items⟩ := sound
      rw [frame] at items
      obtain ⟨-, none, -⟩ := items
      unfold depositSound at deposit ⊢
      rw [same]
      rw [none] at deposit ⊢
      exact deposit
  unfold State.replyEdge
  dsimp only
  split
  · exact State.exchangeSound_calm (State.exchangeSound_setPort_only far mail
      (Lp.sound_clockReply sound frame (min_le_left _ _)) (noDeposit _ order)) ⟨rfl, rfl, rfl, rfl, rfl, rfl⟩
  · have clocked := Lp.sound_clockReply sound frame (c := (s.ports.get p).contentionSeen) sound.2.2.2.1
    refine State.exchangeSound_setPort_only far mail ?_ (noDeposit _ order)
    rw [← seen] at clocked
    simpa only [← count] using clocked

/-- A bit of a unit (R169). -/
theorem State.exchangeSound.sampleBit (h : s.exchangeSound) (selected : (s.ports.get p).selected = true)
    (counts : (s.ports.get p).frame = .expectOrder ∨ (s.ports.get p).frame = .params) (d : Bool) :
    (s.sampleBit p d).exchangeSound := by
  unfold State.sampleBit
  dsimp only
  split
  next short =>
    obtain ⟨⟨⟨-, -, strays, contentions, items⟩, deposit⟩, far, mail⟩ := (State.exchangeSound_iff p s).1 h
    refine State.exchangeSound_setPort_only far mail ⟨Nat.le_of_lt_succ short, fun e => ?_, strays, contentions, ?_⟩ deposit
    · exact absurd (selected.symm.trans e) (by decide)
    · show match (s.ports.get p).frame with | .expectOrder => _ | .params => _ | .paused => _ | .reply => _
      rcases counts with frame | frame <;> rw [frame] at items ⊢ <;> exact items
  · unfold State.completeUnit
    dsimp only
    split
    · exact h.kind1Unit _
    · exact h.kind0Unit selected _

theorem State.exchangeSound.clockEdge (h : s.exchangeSound) (selected : (s.ports.get p).selected = true) (d : Bool) :
    (s.clockEdge p d).exchangeSound := by
  unfold State.clockEdge
  split
  next frame => exact h.sampleBit selected (Or.inl frame) d
  next frame => exact h.sampleBit selected (Or.inr frame) d
  next frame => exact h.replyEdge frame d
  · exact h

theorem State.exchangeSound.contendedClock (h : s.exchangeSound) : (s.contendedClock p).exchangeSound := by
  unfold State.contendedClock
  split
  next contends =>
    refine h.replyEdge ?_ false
    unfold Lp.contends Lp.presented at contends
    split at contends
    next frame _ => exact frame
    · simp at contends
  · exact h

/-- A rising edge of SEL (R173). -/
theorem State.exchangeSound.selRise (h : s.exchangeSound) : (s.setPort p (s.ports.get p).selRise).exchangeSound := by
  obtain ⟨⟨⟨-, -, strays, contentions, items⟩, deposit⟩, far, mail⟩ := (State.exchangeSound_iff p s).1 h
  unfold Lp.selRise
  split
  next frame =>
    rw [frame] at items
    exact State.exchangeSound_setPort_only far mail ⟨Nat.zero_le _, fun _ => rfl, strays, contentions, by
      show match (s.ports.get p).frame with | .expectOrder => _ | .params => _ | .paused => _ | .reply => _
      rw [frame]; exact items⟩ deposit
  next frame =>
    rw [frame] at items
    obtain ⟨-, order, ended, start⟩ := items
    exact State.exchangeSound_setPort_only far mail ⟨Nat.zero_le _, fun _ => rfl, strays, contentions, rfl, order, ended, start⟩
      deposit
  next frame =>
    obtain ⟨⟨short, unselected, -⟩, -⟩ := ((State.exchangeSound_iff p s).1 h).1
    rw [frame] at items
    obtain ⟨selected, rest⟩ := items
    exact State.exchangeSound_setPort_only far mail ⟨short, fun _ => unselected selected, strays, contentions, by
      show match (s.ports.get p).frame with | .expectOrder => _ | .params => _ | .paused => _ | .reply => _
      rw [frame]; exact ⟨rfl, rest⟩⟩ deposit
  next frame =>
    rw [frame] at items
    obtain ⟨-, order, ended, -, -⟩ := items
    exact State.exchangeSound_setPort_only far mail
      ⟨Nat.zero_le _, fun _ => rfl, strays, contentions, order, ended, rfl⟩ deposit

/-- A falling edge of SEL (R173, R169). -/
theorem State.exchangeSound.selFall (h : s.exchangeSound) : (s.setPort p (s.ports.get p).selFall).exchangeSound := by
  obtain ⟨⟨⟨short, -, strays, contentions, items⟩, deposit⟩, far, mail⟩ := (State.exchangeSound_iff p s).1 h
  unfold Lp.selFall
  split
  next frame =>
    rw [frame] at items
    exact State.exchangeSound_setPort_only far mail ⟨Nat.zero_le _, fun _ => rfl, strays, contentions, by
      show match (s.ports.get p).frame with | .expectOrder => _ | .params => _ | .paused => _ | .reply => _
      rw [frame]; exact items⟩ deposit
  next frame =>
    rw [frame] at items
    obtain ⟨-, rest⟩ := items
    exact State.exchangeSound_setPort_only far mail ⟨Nat.zero_le _, fun _ => rfl, strays, contentions, by
      show match (s.ports.get p).frame with | .expectOrder => _ | .params => _ | .paused => _ | .reply => _
      rw [frame]; exact ⟨rfl, rest⟩⟩ deposit
  next frame =>
    rw [frame] at items
    obtain ⟨-, rest⟩ := items
    exact State.exchangeSound_setPort_only far mail ⟨Nat.zero_le _, fun _ => rfl, strays, contentions, rfl, rest⟩ deposit
  next frame =>
    rw [frame] at items
    obtain ⟨-, rest⟩ := items
    exact State.exchangeSound_setPort_only far mail ⟨short, nofun, strays, contentions, by
      show match (s.ports.get p).frame with | .expectOrder => _ | .params => _ | .paused => _ | .reply => _
      rw [frame]; exact ⟨rfl, rest⟩⟩ deposit

/-! ### Line updates and acknowledgement (R23, R163) -/

/-- An acknowledged message is one of the same bytes. -/
theorem exchangeSound_acknowledge (h : s.exchangeSound) (q : Port) : State.exchangeSound { s with ex := s.ex.acknowledge q } := by
  unfold Ex.acknowledge
  split
  · exact h
  next m full =>
    obtain ⟨⟨sound, deposit⟩, ⟨farSound, farDeposit⟩, sounds, distinct, listed⟩ := (State.exchangeSound_iff q s).1 h
    rw [full] at deposit
    refine (State.exchangeSound_iff q _).2 ⟨⟨sound, depositSound_of_full deposit _⟩, ⟨farSound, ?_⟩, ?_, distinct, ?_⟩
    · simpa only [PerPort.get_set_other] using farDeposit
    · intro r n stored
      simp only [PerPort.get_set] at stored
      split at stored
      · cases stored; exact sounds q m full
      · exact sounds r n stored
    · intro r
      rw [listed]
      simp only [PerPort.get_set]
      split
      next same => rw [same, full]; rfl
      · rfl

theorem State.exchangeSound.takeEvent (h : s.exchangeSound) (e : LineEvent) : (s.takeEvent e).exchangeSound := by
  cases e with
  | tipOff =>
    obtain ⟨_, _, _, _, e⟩ := State.tipOff_frame s
    exact State.exchangeSound_calm h (by unfold State.takeEvent; dsimp only; rw [e]; exact ⟨rfl, rfl, rfl, rfl, rfl, rfl⟩)
  | undo =>
    obtain ⟨_, _, _, e⟩ := State.undoPass_frame s
    exact State.exchangeSound_calm h (by unfold State.takeEvent; dsimp only; rw [e]; exact ⟨rfl, rfl, rfl, rfl, rfl, rfl⟩)
  | nextTruck =>
    obtain ⟨_, _, _, _, _, _, _, _, _, _, e⟩ := State.nextTruckEvent_frame s
    exact State.exchangeSound_calm h (by unfold State.takeEvent; dsimp only; rw [e]; exact ⟨rfl, rfl, rfl, rfl, rfl, rfl⟩)
  | discard =>
    obtain ⟨_, _, e⟩ := State.discardPass_frame s
    exact State.exchangeSound_calm h (by unfold State.takeEvent; dsimp only; rw [e]; exact ⟨rfl, rfl, rfl, rfl, rfl, rfl⟩)
  | ackMsg =>
    show s.ackMessage.exchangeSound
    unfold State.ackMessage
    split
    · exact h
    next q _ => exact State.exchangeSound_calm (exchangeSound_acknowledge h q) ⟨rfl, rfl, rfl, rfl, rfl, rfl⟩

theorem State.exchangeSound.lineUpdate (h : s.exchangeSound) : s.lineUpdate.exchangeSound := by
  unfold State.lineUpdate
  split
  · have updated : State.exchangeSound { s with lm := s.lm.update } := h
    have handed := State.exchangeSound_calm updated (calm_handLevels _)
    exact State.evaluateWatches_keeps
      (State.takeEvents_keeps (P := State.exchangeSound) (fun _ e k => k.takeEvent e) (fun _ _ k => k) _ _ handed)
      (fun t w e k => k) _ _
  · exact h

/-! ### Every command -/

theorem exchangeSound_deviceReset (s : State) : s.deviceReset.exchangeSound := by
  have quiet : ∀ q : Lp, q.order = none ∧ q.ended = false ∧ q.reply = none ∧ q.shift = [] ∧ q.strays = 0 ∧ q.contentions = 0 →
      q.frame = .expectOrder → q.sound := by
    rintro ⟨⟩ ⟨rfl, rfl, rfl, rfl, rfl, rfl⟩ rfl
    exact ⟨Nat.zero_le _, fun _ => rfl, Nat.zero_le _, Nat.zero_le _, rfl, rfl, rfl⟩
  refine ⟨?_, ?_, ?_, List.nodup_nil, ?_⟩
  · rintro (_ | _) <;> exact quiet _ ⟨rfl, rfl, rfl, rfl, rfl, rfl⟩ rfl
  · rintro (_ | _) <;> exact rfl
  · rintro (_ | _) m ⟨⟩
  · rintro (_ | _) <;> exact ⟨fun h => absurd h List.not_mem_nil, fun h => absurd h Bool.false_ne_true⟩

/-- A whole order: the pending one abandoned, this one executed and answered. -/
theorem State.exchangeSound.takeOrder (h : s.exchangeSound) {order : State → Answer}
    (kept : ∀ t : State, t.Answerable p → (order t).state.Answerable p) : (s.takeOrder p order).exchangeSound := by
  unfold State.takeOrder State.whileSelected
  split
  next selected =>
    unfold State.orderUnits
    split
    next frame => exact (kept s (h.answerable selected frame)).take
    next frame =>
      obtain ⟨abandoned, frame, selected⟩ := h.abandon frame
      exact (kept _ (abandoned.answerable selected frame)).take
    · exact h
    · exact h
  · exact h

theorem State.exchangeSound.takeCalmOrder (h : s.exchangeSound) {order : State → Answer}
    (calm : ∀ t : State, t.Calm (order t).state) : (s.takeOrder p order).exchangeSound :=
  h.takeOrder fun t k => k.calm (calm t)

theorem State.exchangeSound.unit (h : s.exchangeSound) {f : State → State}
    (kept : (s.ports.get p).selected = true → (f s).exchangeSound) : (s.whileSelected p f).exchangeSound := by
  unfold State.whileSelected
  split
  next selected => exact kept selected
  · exact h

end

/-- Whatever a command does that waits for the release of RESET, the exchange stays sound. -/
theorem Deed.exchangeSound {s : State} {f : State → State} (deed : Deed s f) (h : s.exchangeSound) : (f s).exchangeSound := by
  cases deed with
  | event calm => exact State.exchangeSound_calm h calm
  | lineUpdate => exact h.lineUpdate
  | order p calm => exact h.takeCalmOrder calm
  | readMessage p => exact h.takeOrder fun _ k => k.readMessage
  | linkReset p => exact h.takeOrder fun _ k => k.linkReset
  | units p traffic =>
    refine h.unit fun selected => ?_
    cases traffic with
    | kind0 code => exact h.kind0Unit selected code
    | kind1 b => exact h.kind1Unit b
    | clock d => exact h.clockEdge selected d
    | contended => exact h.contendedClock
    | whole code bs => exact exchangeSound_kind1Units bs (h.kind0Unit selected code)

/-- Settles O59: a command acts on its own port by the rules of Table 10-3, and on the mail by those of R159 to R162. -/
theorem stepKeepsExchange : Obligations.StepKeepsExchange := by
  unfold Obligations.StepKeepsExchange
  intro s t e h
  unfold step at e
  split at e
  · cases e; exact h
  next c rest _ =>
    replace h : State.exchangeSound { s with pending := rest } := h
    generalize ({ s with pending := rest } : State) = s at e h
    by_cases edge : ∃ p, c = .selRise p ∨ c = .selFall p
    · obtain ⟨p, rfl | rfl⟩ := edge <;> cases e
      · exact h.selRise
      · exact h.selFall
    have noEdge : ∀ p, c ≠ .selRise p ∧ c ≠ .selFall p := fun p => ⟨fun e => edge ⟨p, .inl e⟩, fun e => edge ⟨p, .inr e⟩⟩
    by_cases reset : c = .deviceReset
    · subst reset; cases e; exact exchangeSound_deviceReset s
    by_cases release : c = .resetRelease
    · subst release; cases e
      show s.resetRelease.exchangeSound
      unfold State.resetRelease
      split <;> exact h
    obtain ⟨f, lives, deed⟩ := exec_eq_live reset release noEdge s
    exact live_keeps (lives.symm.trans e) h deed.exchangeSound

end Sys2Proof.Machine
end

section
/-! The step, and the state that device reset leaves (Chapter 0). -/

namespace Sys2Proof.Machine

open Sys2Proof

theorem step_of_pending {s : State} {c : Instr} {rest : List Instr} (h : s.pending = c :: rest) :
    step s = exec c { s with pending := rest } := by
  unfold step; rw [h]

theorem step_idle {s : State} (h : s.pending = []) : step s = .next s := by unfold step; rw [h]

/-- Settles O1. -/
theorem stepTakesFront : Obligations.StepTakesFront :=
  ⟨fun _ _ => step_of_pending rfl, fun _ _ _ => step_of_pending, fun _ => step_idle⟩

/-- Settles O2: block by block, the values of the reset state. -/
theorem valuesAfterReset : Obligations.ValuesAfterReset := by
  unfold Obligations.ValuesAfterReset
  refine ⟨?sp, ?lm, ?ct, ?we, ?cu, ?lt, ?lq, ?sd, ?ex, ?ports⟩
  case sp => and_intros <;> rfl
  case lm => exact ⟨rfl, rfl, by decide, rfl, by decide, rfl, rfl, rfl, by rintro (_ | _) <;> rfl⟩
  case ct => and_intros <;> rfl
  case we => exact ⟨rfl, rfl, rfl, rfl, by decide, rfl, rfl, rfl, rfl, rfl, rfl⟩
  case cu => exact ⟨rfl, by decide, rfl, rfl, rfl, rfl, rfl, rfl, rfl⟩
  case lt => exact ⟨rfl, rfl, rfl, rfl, rfl, rfl, by decide⟩
  case lq => and_intros <;> rfl
  case sd => exact ⟨rfl, rfl, rfl, rfl, rfl, rfl, rfl, rfl, rfl, rfl, fun _ => rfl, by rintro (_ | _) <;> rfl, rfl⟩
  case ex =>
    refine ⟨rfl, rfl, rfl, ?_⟩
    rintro (_ | _) <;> exact ⟨rfl, rfl, rfl, rfl, rfl⟩
  case ports => rintro (_ | _) <;> exact ⟨_, rfl⟩

/-- Settles O3: the invariants' own reset lemmas. -/
theorem resetIsSound : Obligations.ResetIsSound :=
  ⟨thresholdsSound_reset, calibrationSound_kept.reset, tallySound_blockKept.reset, trackerSound_blockKept.reset,
    holdSound_blockKept.reset, exchangeSound_deviceReset State.reset,
    (State.buffersSound_iff _).2 bounded_reset, stripSound_reset, linesSound_reset⟩

/-- Settles O4: device reset, its release, and one after the other. -/
theorem deviceResetAndRelease : Obligations.DeviceResetAndRelease := by
  unfold Obligations.DeviceResetAndRelease
  refine fun s => ⟨rfl, fun held => ?_, fun released => ?_, rfl⟩
  · show Host.Outcome.next s.resetRelease = _
    rw [State.resetRelease, if_pos held]
  · show Host.Outcome.next s.resetRelease = _
    rw [State.resetRelease, if_neg (by simp [released])]

end Sys2Proof.Machine
end

section
/-! The units, clocks and edges of a link port (Chapter 10), one at a time. -/

namespace Sys2Proof.Machine

open Sys2Proof

theorem State.restartHold_eq (p : Port) (s : State) :
    s.restartHold p = { s with ex.holdTimer := if s.ex.hold = some p then .started else s.ex.holdTimer } := by
  unfold State.restartHold State.holds
  by_cases h : s.ex.hold = some p <;> simp [h]

section

variable {p : Port} {s : State} {b : Byte}

theorem live_unit {f : State → State} (awake : s.held = false) (selected : (s.ports.get p).selected = true) :
    live s (State.whileSelected p f) = .next (f s) := by
  rw [live_not_held _ awake, State.whileSelected_low _ selected]

/-- While SEL is high nothing is sampled (R169). -/
theorem live_unselected {f : State → State} (unselected : (s.ports.get p).selected = false) :
    live s (State.whileSelected p f) = .next s := by
  unfold live
  rw [State.whileSelected_high _ unselected, ite_self]

theorem kind0Unit_expectOrder (frame : (s.ports.get p).frame = .expectOrder) : s.kind0Unit p b = s.beginOrder p b := by
  unfold State.kind0Unit; rw [frame]

theorem kind0Unit_params (frame : (s.ports.get p).frame = .params) : s.kind0Unit p b = (s.abandon p).beginOrder p b := by
  unfold State.kind0Unit; rw [frame]

theorem kind1Unit_expectOrder (frame : (s.ports.get p).frame = .expectOrder) : s.kind1Unit p b = s.strayUnit p := by
  unfold State.kind1Unit; dsimp only; rw [frame]

theorem kind1Unit_params {o : Pending} (frame : (s.ports.get p).frame = .params) (order : (s.ports.get p).order = some o) :
    s.kind1Unit p b = if (s.ports.get p).ended then s.passOver p o b else s.parameter p o b := by
  unfold State.kind1Unit; dsimp only; rw [frame, order]

theorem kind1Unit_idle (frame : (s.ports.get p).frame = .reply ∨ (s.ports.get p).frame = .paused) : s.kind1Unit p b = s := by
  unfold State.kind1Unit; dsimp only; rcases frame with frame | frame <;> rw [frame]

/-- The units that follow a length unit, by the kind of order (R171). -/
theorem unitsAfterLength_eq (code : Byte) :
    unitsAfterLength code b = if callsOf code = some .deposit then lengthCount b + 1 else lengthCount b := by
  unfold unitsAfterLength
  simp only [callsOf_eq_deposit_iff]

theorem lengthCount_long (long : 64 < b.toNat) : lengthCount b = b.toNat :=
  if_neg fun e => by rw [e] at long; exact absurd long (by decide)

/-! ### In EXPECT_ORDER (R170) -/

theorem settle_eq (o : Pending) (r : ResultCode) (reply : List Byte) :
    s.settle p o r reply = { s with
      ports := s.ports.set p { s.ports.get p with
        frame := .params, shift := [], order := some o, ended := true, reply := some ⟨r.code :: reply, 0⟩, lastResult := r }
      ex.holdTimer := if s.ex.hold = some p then .started else s.ex.holdTimer } := by
  unfold State.settle; dsimp only; rw [State.restartHold_eq]; rfl

theorem beginOrder_unknown (calls : callsOf b = none) : s.beginOrder p b = s.answerBadOrder p := by
  unfold State.beginOrder; rw [calls]

theorem beginOrder_fixed_zero (calls : callsOf b = some (.fixed 0)) : s.beginOrder p b = s.take p (orderOf p b []) := by
  unfold State.beginOrder; rw [calls]; rfl

theorem beginOrder_fixed {n : Nat} (calls : callsOf b = some (.fixed (n + 1))) :
    s.beginOrder p b = s.beginParams p b (some (n + 1)) := by
  unfold State.beginOrder; rw [calls]; rfl

theorem beginOrder_text (calls : callsOf b = some .text) : s.beginOrder p b = s.beginParams p b none := by
  unfold State.beginOrder; rw [calls]

theorem beginOrder_deposit (calls : callsOf b = some .deposit) :
    s.beginOrder p b =
      if (s.ex.slots.get p).isSome then s.settle p { code := b, params := [], due := none } .slotFull []
      else { s with ex.deposits := s.ex.deposits.set p (some 0) }.beginParams p b none := by
  unfold State.beginOrder; rw [calls]

theorem answerBadOrder_expectOrder (frame : (s.ports.get p).frame = .expectOrder) :
    s.answerBadOrder p = { s with
      ports := s.ports.set p { s.ports.get p with shift := [], lastResult := .badOrder }
      ex.holdTimer := if s.ex.hold = some p then .started else s.ex.holdTimer } := by
  unfold State.answerBadOrder
  dsimp only
  rw [State.restartHold_eq]
  show ({ s with ports := s.ports.set p _, ex.holdTimer := _ } : State) = _
  rw [← frame]

/-- Settles O34: a unit in EXPECT_ORDER, by its kind and the units that its code calls for. -/
theorem unitsInExpectOrder : Obligations.UnitsInExpectOrder := by
  unfold Obligations.UnitsInExpectOrder
  rintro p b s ⟨awake, selected, frame⟩
  have order : exec (.orderUnit p b) s = .next (s.beginOrder p b) :=
    (live_unit awake selected).trans (congrArg _ (kind0Unit_expectOrder frame))
  refine ⟨?stray, fun calls => ?bad, fun n calls => ?fixed, fun calls => ?text, fun calls empty => ?deposit, fun calls full => ?full⟩
  case stray => exact (live_unit awake selected).trans (congrArg _ (kind1Unit_expectOrder frame))
  case bad =>
    refine (live_unit awake selected).trans (congrArg _ ?_)
    rw [kind0Unit_expectOrder frame, beginOrder_unknown calls, answerBadOrder_expectOrder frame]
  case fixed => rw [order, beginOrder_fixed calls]; rfl
  case text => rw [order, beginOrder_text calls]; rfl
  case deposit => rw [order, beginOrder_deposit calls, if_neg (by simp [empty])]; rfl
  case full => rw [order, beginOrder_deposit calls, if_pos (Option.isSome_iff_ne_none.2 full), settle_eq]; rfl

/-! ### In PARAMS (R160, R171, R172) -/

section

variable {o : Pending} {n : Nat}

theorem parameter_last (due : o.due = some 1) : s.parameter p o b = s.take p (orderOf p o.code (o.params ++ [b])) := by
  unfold State.parameter; rw [due]; exact if_pos le_rfl

theorem parameter_more (due : o.due = some (n + 2)) :
    s.parameter p o b =
      (s.countDeposit p ⟨o.code, o.params ++ [b], some (n + 1)⟩).keepParams p ⟨o.code, o.params ++ [b], some (n + 1)⟩ := by
  unfold State.parameter; rw [due]; exact if_neg (by omega)

theorem parameter_length (due : o.due = none) : s.parameter p o b = s.lengthUnit p o b := by
  unfold State.parameter; rw [due]

theorem lengthUnit_short (short : b.toNat ≤ 64) :
    s.lengthUnit p o b = s.keepParams p ⟨o.code, o.params ++ [b], some (unitsAfterLength o.code b)⟩ := by
  unfold State.lengthUnit; exact if_neg (by omega)

theorem lengthUnit_long (long : 64 < b.toNat) :
    s.lengthUnit p o b = State.settle p ⟨o.code, o.params ++ [b], some (unitsAfterLength o.code b)⟩ .badParam (u8 0)
      { s with ex.deposits := s.ex.deposits.set p none } := by
  unfold State.lengthUnit; exact if_pos long

theorem passOver_length (due : o.due = none) :
    s.passOver p o b = s.keepParams p { o with due := some (unitsAfterLength o.code b) } := by
  unfold State.passOver; rw [due]

theorem passOver_last (due : o.due = some 1) :
    s.passOver p o b = s.setPort p { s.ports.get p with
      frame := .reply, shift := [], order := none, ended := false, contentionSeen := false } := by
  unfold State.passOver; rw [due]; exact if_pos le_rfl

theorem passOver_more (due : o.due = some (n + 2)) : s.passOver p o b = s.keepParams p { o with due := some (n + 1) } := by
  unfold State.passOver; rw [due]; exact if_neg (by omega)

end

/-- Settles O35: a parameter unit by the state of its order and the units still due. -/
theorem parameterUnits : Obligations.ParameterUnits := by
  unfold Obligations.ParameterUnits
  refine ⟨fun p b s awake frame => ?idle, fun p b o s awake selected frame order => ?_⟩
  case idle =>
    have quiet : live s (State.whileSelected p (State.kind1Unit p b)) = .next s := by
      rw [live_not_held _ awake]
      unfold State.whileSelected
      rw [kind1Unit_idle frame, ite_self]
    exact ⟨quiet, quiet⟩
  have unit : exec (.parameterUnit p b) s =
      .next (if (s.ports.get p).ended then s.passOver p o b else s.parameter p o b) :=
    (live_unit awake selected).trans (congrArg _ (kind1Unit_params frame order))
  have openUnit : (s.ports.get p).ended = false → exec (.parameterUnit p b) s = .next (s.parameter p o b) := fun open_ => by
    rw [unit, if_neg (by simp [open_])]
  have settledUnit : (s.ports.get p).ended = true → exec (.parameterUnit p b) s = .next (s.passOver p o b) := fun ended => by
    rw [unit, if_pos ended]
  refine ⟨fun open_ due => ?last, fun n open_ due calls => ?more, fun n open_ due calls => ?byte, fun n open_ due short count => ?length,
    fun open_ due long => ?long, fun n ended due => ?pass, fun ended due => ?passLast, fun n ended due count => ?passLength⟩
  case last => rw [openUnit open_, parameter_last due]
  case more =>
    rw [openUnit open_, parameter_more due, State.countDeposit, if_neg fun code => calls ((callsOf_eq_deposit_iff _).2 code)]; rfl
  case byte =>
    rw [openUnit open_, parameter_more due, State.countDeposit, if_pos ((callsOf_eq_deposit_iff _).1 calls)]
    have counted : (o.params ++ [b]).length - 2 = o.params.length - 1 := by simp
    rw [counted]; rfl
  case length =>
    subst count
    rw [openUnit open_, parameter_length due, lengthUnit_short short, unitsAfterLength_eq]; rfl
  case long =>
    rw [openUnit open_, parameter_length due, lengthUnit_long long, settle_eq, unitsAfterLength_eq, lengthCount_long long]; rfl
  case pass => rw [settledUnit ended, passOver_more due]; rfl
  case passLast => rw [settledUnit ended, passOver_last due]; rfl
  case passLength =>
    subst count
    rw [settledUnit ended, passOver_length due, unitsAfterLength_eq]; rfl

/-! ### Edges of SEL, and SEL high (R169, R173) -/

/-- A row that stands for a whole order comes on its port while its SEL is low. -/
theorem exec_orderWire {c : Instr} {code : Byte} {params : List Byte} (h : orderWire c = some (p, code, params)) :
    ∃ f, ∀ t, exec c t = live t (State.whileSelected p f) := by
  cases c <;> cases h <;> exact ⟨_, fun _ => rfl⟩

/-- Settles O36: the edges by the frame state, and every row of a port while its SEL is high. -/
theorem selEdges : Obligations.SelEdges := by
  unfold Obligations.SelEdges
  rintro p q s rfl
  refine ⟨?rise, ?fall, fun high => ⟨fun b => ⟨?_, ?_, ?_, ?_⟩, fun dat => ?_, ?_, fun c code params row => ?order⟩⟩
  case rise =>
    show Host.Outcome.next (s.setPort p (s.ports.get p).selRise) = _
    unfold Lp.selRise State.setPort
    cases (s.ports.get p).frame <;> rfl
  case fall =>
    show Host.Outcome.next (s.setPort p (s.ports.get p).selFall) = _
    unfold Lp.selFall State.setPort
    cases (s.ports.get p).frame <;> rfl
  case order =>
    obtain ⟨f, acts⟩ := exec_orderWire row
    rw [acts, live_unselected high]
  all_goals exact live_unselected high

/-! ### An order while another is pending (R161, R174) -/

/-- What a kind-0 unit or a whole order does by the frame state, `g` being its own effect (R170, R174). -/
def State.opening (p : Port) (g : State → State) (s : State) : State :=
  match (s.ports.get p).frame with
  | .expectOrder => g s
  | .params => g (s.abandon p)
  | .reply => s
  | .paused => s

theorem opening_kind0Unit (p : Port) (code : Byte) : State.kind0Unit p code = State.opening p (State.beginOrder p code) := by
  funext t; unfold State.kind0Unit State.opening; cases (t.ports.get p).frame <;> rfl

theorem opening_orderUnits (p : Port) (order : State → Answer) :
    State.orderUnits p order = State.opening p (State.take p order) := by
  funext t; unfold State.orderUnits State.opening; cases (t.ports.get p).frame <;> rfl

theorem exec_orderRow {c : Instr} (row : isOrderRow c = some p) : ∃ order, ∀ t, exec c t = live t (State.takeOrder p order) := by
  cases c <;> cases row <;> exact ⟨_, fun _ => rfl⟩

theorem exec_opening {c : Instr} (h : isOrderRow c = some p ∨ ∃ b, c = .orderUnit p b ∨ c = .badOrder p b) :
    ∃ g, ∀ t, exec c t = live t (State.whileSelected p (State.opening p g)) := by
  rcases h with row | ⟨b, rfl | rfl⟩
  · obtain ⟨order, acts⟩ := exec_orderRow row
    refine ⟨State.take p order, fun t => ?_⟩
    rw [acts, ← opening_orderUnits]; rfl
  · exact ⟨State.beginOrder p b, fun t => by rw [← opening_kind0Unit]; rfl⟩
  · exact ⟨State.beginOrder p b, fun t => by rw [← opening_kind0Unit]; rfl⟩

theorem abandon_settled (ended : (s.ports.get p).ended = true) :
    s.abandon p = s.setPort p { s.ports.get p with
      frame := .expectOrder, shift := [], order := none, ended := false, reply := none } := if_pos ended

theorem abandon_open (open_ : (s.ports.get p).ended = false) :
    s.abandon p = (s.abandonDeposit p (s.ports.get p).paramsTaken).setPort p { s.ports.get p with
      frame := .expectOrder, shift := [], order := none, reply := none, lastResult := .abandoned } := if_neg (by simp [open_])

/-- Settles O39: after the abandonment the command finds the port in EXPECT_ORDER. -/
theorem abandonedOrder : Obligations.AbandonedOrder := by
  unfold Obligations.AbandonedOrder
  rintro p c q s awake rfl selected h
  obtain ⟨g, acts⟩ := exec_opening h
  have low : ∀ t : State, t.held = false → (t.ports.get p).selected = true → exec c t = .next (t.opening p g) :=
    fun t held sel => (acts t).trans (live_unit held sel)
  have again : ∀ t : State, (s.ports.get p).frame = .params → s.abandon p = t → t.held = false →
      (t.ports.get p).selected = true → (t.ports.get p).frame = .expectOrder → exec c s = exec c t :=
    fun t frame abandoned held sel frame' => by
      rw [low s awake selected, low t held sel]
      unfold State.opening
      rw [frame, frame', abandoned]
  refine ⟨fun frame ended => ?settled, fun frame open_ none => ?noDeposit, fun frame open_ zero => ?begun,
    fun k o frame open_ some order => ?stored, fun idle => ?idle⟩
  case settled =>
    exact again _ frame (abandon_settled ended) awake (by simpa using selected) (by simp)
  case noDeposit =>
    refine again _ frame ?_ awake (by simpa using selected) (by simp)
    rw [abandon_open open_, State.abandonDeposit, none]; rfl
  case begun =>
    refine again _ frame ?_ awake (by simpa using selected) (by simp)
    rw [abandon_open open_, State.abandonDeposit, zero]; rfl
  case stored =>
    refine again _ frame ?_ awake (by simpa using selected) (by simp)
    rw [abandon_open open_, State.abandonDeposit, some, Lp.paramsTaken, order]; rfl
  case idle =>
    rw [low s awake selected]
    unfold State.opening
    rcases idle with frame | frame <;> rw [frame]

/-! ### Clocks of a reply (R175, R176) -/

theorem presented_of_reply {q : Lp} {r : Reply} (frame : q.frame = .reply) (reply : q.reply = some r) :
    q.presented = if r.pos = 0 then none else some (bitOfBytes r.bytes (r.pos - 1)) := by
  unfold Lp.presented; rw [frame, reply]

/-- A reply clock meets contention exactly at a bit presented released that reads low, once in a reply (R176). -/
theorem contends_iff {q : Lp} {r : Reply} (frame : q.frame = .reply) (reply : q.reply = some r) (dat : Bool) :
    q.contends dat = true ↔
      r.pos ≠ 0 ∧ bitOfBytes r.bytes (r.pos - 1) = true ∧ dat = false ∧ q.contentionSeen = false := by
  unfold Lp.contends
  rw [presented_of_reply frame reply]
  split_ifs with start
  · simp [start]
  · simp [start, and_assoc]

theorem clockReply_more {q : Lp} {r : Reply} (reply : q.reply = some r) (more : r.pos < 8 * r.bytes.length) :
    q.clockReply = { q with reply := some { r with pos := r.pos + 1 } } := by
  unfold Lp.clockReply; rw [reply]; exact if_neg (by omega)

theorem clockReply_last {q : Lp} {r : Reply} (reply : q.reply = some r) (last : 8 * r.bytes.length ≤ r.pos) :
    q.clockReply = { q with frame := .expectOrder, shift := [], reply := none } := by
  unfold Lp.clockReply; rw [reply]; exact if_pos (by omega)

theorem replyEdge_quiet {dat : Bool} (quiet : ¬(s.ports.get p).contends dat = true) :
    s.replyEdge p dat = s.setPort p (s.ports.get p).clockReply := if_neg quiet

theorem replyEdge_contends {dat : Bool} (contends : (s.ports.get p).contends dat = true) :
    s.replyEdge p dat = (s.setPort p { (s.ports.get p).clockReply with
      contentionSeen := true, contentions := satAdd 255 (s.ports.get p).contentions 1 }).raise p .linkError := if_pos contends

theorem exec_replyClock_reply {dat : Bool} (awake : s.held = false) (selected : (s.ports.get p).selected = true)
    (frame : (s.ports.get p).frame = .reply) : exec (.replyClock p dat) s = .next (s.replyEdge p dat) := by
  refine (live_unit awake selected).trans (congrArg _ ?_)
  unfold State.clockEdge; rw [frame]

theorem exec_contention_low (awake : s.held = false) (selected : (s.ports.get p).selected = true) :
    exec (.contention p) s = .next (if (s.ports.get p).contends false then s.replyEdge p false else s) :=
  live_unit awake selected

/-- Settles O40: a reply clock by its position in the reply and by whether it meets contention. -/
theorem replyClocks : Obligations.ReplyClocks := by
  unfold Obligations.ReplyClocks
  rintro p dat q r s awake rfl selected frame reply
  have clock : ∀ d, exec (.replyClock p d) s = .next (s.replyEdge p d) := fun _ => exec_replyClock_reply awake selected frame
  have quiet : (r.pos = 0 ∨ dat = true ∨ bitOfBytes r.bytes (r.pos - 1) = false ∨ (s.ports.get p).contentionSeen = true) →
      exec (.replyClock p dat) s = .next (s.setPort p (s.ports.get p).clockReply) := fun why => by
    rw [clock, replyEdge_quiet]
    rw [contends_iff frame reply]
    rintro ⟨past, released, low, unseen⟩
    rcases why with start | high | presented | seen
    · exact past start
    · simp [low] at high
    · simp [released] at presented
    · simp [unseen] at seen
  have contends : 1 ≤ r.pos → bitOfBytes r.bytes (r.pos - 1) = true → (s.ports.get p).contentionSeen = false →
      ∀ c, c = .replyClock p false ∨ c = .contention p →
        exec c s = .next ((s.setPort p { (s.ports.get p).clockReply with
          contentionSeen := true, contentions := satAdd 255 (s.ports.get p).contentions 1 }).raise p .linkError) :=
    fun past released unseen c row => by
      have meets : (s.ports.get p).contends false = true := (contends_iff frame reply false).2 ⟨by omega, released, rfl, unseen⟩
      rcases row with rfl | rfl
      · rw [clock, replyEdge_contends meets]
      · rw [exec_contention_low awake selected, if_pos meets, replyEdge_contends meets]
  refine ⟨fun start some => ?turnaround, fun past more why => ?bit, fun past more released unseen c row => ?contended,
    fun past last why => ?end_, fun past last released unseen c row => ?endContended, fun why => ?none⟩
  case turnaround =>
    have bytes : 0 < r.bytes.length := List.length_pos_iff.2 some
    rw [quiet (.inl start), clockReply_more reply (by omega), start]; rfl
  case bit => rw [quiet (.inr why), clockReply_more reply more]; rfl
  case contended => rw [contends past released unseen c row, clockReply_more reply more]; rfl
  case end_ => rw [quiet (.inr why), clockReply_last reply last.ge]; rfl
  case endContended =>
    rw [contends past released unseen c row, clockReply_last reply last.ge]; rfl
  case none =>
    rw [exec_contention_low awake selected, if_neg]
    rw [contends_iff frame reply]
    rintro ⟨past, released, -, unseen⟩
    rcases why with start | presented | seen
    · exact past start
    · simp [released] at presented
    · simp [unseen] at seen

/-! ### A reply clocked out whole (R171, R175) -/

theorem steps_succ {c : Instr} {rest : List Instr} {t : State} (k : Nat) (h : exec c { s with pending := rest } = .next t) :
    steps (k + 1) { s with pending := c :: rest } = steps k t := by
  have stepped : step { s with pending := c :: rest } = .next t := h
  simp only [steps, stepped]

theorem steps_add (k : Nat) {t : State} : ∀ (j : Nat) {s : State}, steps j s = .next t → steps (j + k) s = steps k t := by
  intro j
  induction j with
  | zero => rintro s ⟨⟩; rw [Nat.zero_add]
  | succ j ih =>
    intro s h
    rw [Nat.add_right_comm]
    simp only [steps] at h ⊢
    split at h
    next u _ => exact ih h
    next o notNext => exact absurd h (notNext t)

/-- Port `p` with `j` clocks of its reply behind it. -/
def State.clocked (p : Port) (bytes : List Byte) (j : Nat) (s : State) : State :=
  { s with ports := s.ports.set p { s.ports.get p with reply := some ⟨bytes, j⟩ } }

theorem exec_clocked {bytes : List Byte} {j : Nat} (awake : s.held = false) (selected : (s.ports.get p).selected = true)
    (frame : (s.ports.get p).frame = .reply) :
    exec (.replyClock p true) (s.clocked p bytes j) =
      .next (State.setPort p (((s.clocked p bytes j).ports.get p).clockReply) (s.clocked p bytes j)) := by
  have own : (s.clocked p bytes j).ports.get p = { s.ports.get p with reply := some ⟨bytes, j⟩ } := PerPort.get_set_same _ _ _
  rw [exec_replyClock_reply (s := s.clocked p bytes j) awake (by rw [own]; exact selected) (by rw [own]; exact frame),
    replyEdge_quiet]
  rw [contends_iff (r := ⟨bytes, j⟩) (by rw [own]; exact frame) (by rw [own])]
  rintro ⟨-, -, ⟨⟩, -⟩

/-- `k` clocks from the `j`-th, all within the reply. -/
theorem steps_clocked {bytes : List Byte} (selected : (s.ports.get p).selected = true) (frame : (s.ports.get p).frame = .reply)
    (awake : s.held = false) (rest : List Instr) (k : Nat) : ∀ j, j + k ≤ 8 * bytes.length →
      steps k { s.clocked p bytes j with pending := List.replicate k (.replyClock p true) ++ rest } =
        .next { s.clocked p bytes (j + k) with pending := rest } := by
  induction k with
  | zero => intro j _; rfl
  | succ k ih =>
    intro j within
    rw [List.replicate_succ, List.cons_append, steps_succ k (t := { s.clocked p bytes (j + 1) with
      pending := List.replicate k (.replyClock p true) ++ rest })]
    · rw [ih (j + 1) (by omega), Nat.add_right_comm, Nat.add_assoc]
    · have clock := exec_clocked (s := { s with pending := List.replicate k (.replyClock p true) ++ rest })
        (bytes := bytes) (j := j) awake selected frame
      rw [clockReply_more (r := ⟨bytes, j⟩) (by simp [State.clocked]) (by show j < 8 * bytes.length; omega)] at clock
      refine clock.trans ?_
      simp [State.clocked, State.setPort]

/-- Settles O41: by `steps_clocked` up to the last bit, and one clock more. -/
theorem wholeReplyClocked : Obligations.WholeReplyClocked := by
  unfold Obligations.WholeReplyClocked
  intro p bytes s awake some selected frame reply
  have start : s.clocked p bytes 0 = s := by
    unfold State.clocked
    rw [← reply, PerPort.set_get]
  have clocks : ∀ k rest, k ≤ 8 * bytes.length →
      steps k { s with pending := List.replicate k (.replyClock p true) ++ rest } =
        .next { s.clocked p bytes k with pending := rest } := fun k rest within => by
    have moved := steps_clocked (bytes := bytes) selected frame awake rest k 0 (by omega)
    rwa [start, Nat.zero_add] at moved
  refine ⟨?whole, fun k past within => ⟨_, clocks k _ within, ?_⟩⟩
  case whole =>
    have within := clocks (8 * bytes.length) (.replyClock p true :: s.pending) le_rfl
    rw [List.replicate_succ', List.append_assoc]
    rw [show [Instr.replyClock p true] ++ s.pending = .replyClock p true :: s.pending from rfl, steps_add 1 _ within,
      steps_succ (s := s.clocked p bytes (8 * bytes.length)) 0 (exec_clocked awake selected frame),
      clockReply_last (r := ⟨bytes, 8 * bytes.length⟩) (by simp [State.clocked]) le_rfl]
    simp [steps, State.setPort, State.clocked]
  · rw [presented_of_reply (r := ⟨bytes, k⟩) (by simpa [State.clocked] using frame) (by simp [State.clocked])]
    exact if_neg (by show k ≠ 0; omega)

/-! ### LINK_RESET and PORT_STATUS (R177, R178) -/

/-- What LINK_RESET does once the hold is released: the trace, the window, the watch, the pending flags and the counts. -/
def State.relinked (p : Port) (s : State) : State :=
  { s with
    sp.trace := if s.sp.trace.owner = some p then ⟨[], none, .off, 0⟩ else s.sp.trace
    sd.windows := s.sd.windows.set p none
    lm.watch := s.lm.watch.set p { s.lm.watch.get p with mode := .off, capture := none, count := 0 }
    ex.pending := s.ex.pending.set p 0
    ports := s.ports.set p { s.ports.get p with strays := 0, contentions := 0 } }

theorem resetTrace_eq (p : Port) (s : State) :
    s.resetTrace p =
      { s with sp.trace := if s.sp.trace.owner = some p then ⟨[], none, .off, 0⟩ else s.sp.trace } := by
  unfold State.resetTrace
  split_ifs <;> rfl

theorem orderLinkReset_eq (p : Port) (s : State) :
    orderLinkReset p s =
      Answer.done ((State.resetHold p (s.setPort p { s.ports.get p with order := none, ended := false })).relinked p) := by
  unfold orderLinkReset
  dsimp only
  rw [resetTrace_eq]
  rfl

/-- The loss of the hold while no calibration runs. -/
theorem loseHold_idle (idle : s.cu.cal = .idle) : s.loseHold = { s with ex.hold := none, ex.holdTimer := .stopped } :=
  State.abandonCal_idle (s := { s with ex.hold := none, ex.holdTimer := .stopped }) idle _

/-- The loss of the hold with a calibration running: it is abandoned with cause ABORTED (R92). -/
theorem loseHold_running (running : s.cu.cal ≠ .idle) :
    s.loseHold = { s with
      cu := s.cu.abandoned .aborted
      ex := { s.ex with hold := none, holdTimer := .stopped }.raisedBoth .calFailed
      sd := s.sd.advised .calFailed } :=
  State.abandonCal_running (s := { s with ex.hold := none, ex.holdTimer := .stopped }) running _

theorem resetHold_quiet (h : s.ex.hold ≠ some p ∨ s.cu.cal = .idle) :
    s.resetHold p = { s with
      ex.hold := if s.ex.hold = some p then none else s.ex.hold
      ex.holdTimer := if s.ex.hold = some p then .stopped else s.ex.holdTimer } := by
  unfold State.resetHold State.holds
  by_cases holder : s.ex.hold = some p
  · have idle : s.cu.cal = .idle := h.resolve_left fun other => other holder
    simp [holder, loseHold_idle idle]
  · simp [holder]

theorem resetHold_running (holder : s.ex.hold = some p) (running : s.cu.cal ≠ .idle) :
    s.resetHold p = { s with
      cu := s.cu.abandoned .aborted
      ex := { s.ex with hold := none, holdTimer := .stopped }.raisedBoth .calFailed
      sd := s.sd.advised .calFailed } := by
  unfold State.resetHold State.holds
  rw [if_pos (by simp [holder]), loseHold_running running]

theorem exec_linkReset_ready (hs : s.ready p) :
    exec (.linkReset p) s = .next (((orderLinkReset p s).state).answered p .ok []) := by
  rw [show exec (.linkReset p) s = _ from live_takeOrder_ready hs (orderLinkReset p), orderLinkReset_eq]; rfl

/-- Settles O42: LINK_RESET by whether its step 2 ends a calibration, and PORT_STATUS. -/
theorem linkResetAndStatus : Obligations.LinkResetAndStatus := by
  unfold Obligations.LinkResetAndStatus
  refine ⟨fun p s hs => ⟨fun quiet => ?quiet, fun holder running => ?running⟩, fun p s hs => live_takeOrder_ready hs _⟩
  case quiet =>
    rw [exec_linkReset_ready hs, orderLinkReset_eq, resetHold_quiet (s := s.setPort p _) quiet]
    simp [Answer.done, State.relinked, State.setPort]
    rfl
  case running =>
    refine ⟨_, exec_linkReset_ready hs, ?_⟩
    rw [orderLinkReset_eq, resetHold_running (s := s.setPort p _) holder running]
    have others : other p ≠ p := by cases p <;> decide
    refine ⟨rfl, ?_, rfl, rfl, ?_, ?_, rfl, rfl, rfl, ?_, ?_, ?_, ?_, rfl, rfl, rfl, rfl, rfl, rfl, rfl, rfl⟩
    · simp [Answer.done, State.relinked, State.answered, Ex.raisedBoth]
    · simp [Answer.done, State.relinked, State.answered]
    · simp [Answer.done, State.relinked, State.answered, Notice.mask, Notice.priority]
    · simp [Answer.done, State.relinked, State.answered]
    · simp [Answer.done, State.relinked, State.answered]
      rfl
    · simp [Answer.done, State.relinked, State.answered]
    · simp [Answer.done, State.relinked, State.answered]

end

end Sys2Proof.Machine
end

section
/-! The settings groups and the material table (R2, R50, R73 to R76, R114, R119, R153): the checks of a record field by field, and what
a record that passes does. -/

namespace Sys2Proof.Machine

open Sys2Proof

/-! ### Field checks (R179) -/

/-- The first of a list of checks, by what makes it fail. -/
theorem firstFailing_cons_of {check : Bool} {bad : Prop} [Decidable bad] (h : check = true ↔ ¬bad) (rest : List Bool) :
    firstFailing (check :: rest) = if bad then some 0 else (firstFailing rest).map (· + 1) := by
  rw [firstFailing_cons]
  by_cases fails : bad
  · rw [if_pos fails, if_neg (fun passes => h.1 passes fails)]
  · rw [if_neg fails, if_pos (h.2 fails)]

theorem inRange_iff_not (lo hi x : Int) : inRange lo hi x = true ↔ ¬(x < lo ∨ hi < x) := by
  simp [inRange]

theorem natInRange_iff_not (lo hi n : Nat) : natInRange lo hi n = true ↔ ¬(n < lo ∨ hi < n) := by
  simp [natInRange]

theorem natInRange_zero_iff_not (hi n : Nat) : natInRange 0 hi n = true ↔ ¬hi < n := by
  simp [natInRange]

theorem boolOf_eq (c : Byte) : boolOf c = if 1 < c.toNat then none else some (decide (c = 1)) := by
  unfold boolOf
  split
  next h => rw [BitVec.eq_of_toNat_eq (y := 0) h]; rfl
  next h => rw [BitVec.eq_of_toNat_eq (y := 1) h]; rfl
  next notZero notOne =>
    have zero : c.toNat ≠ 0 := notZero
    have one : c.toNat ≠ 1 := notOne
    rw [if_pos (by omega)]

theorem barModeOf_eq (c : Byte) :
    barModeOf c = if 1 < c.toNat then none else some (if c = 0 then .loadProgress else .passFill) := by
  unfold barModeOf
  split
  next h => rw [BitVec.eq_of_toNat_eq (y := 0) h]; rfl
  next h => rw [BitVec.eq_of_toNat_eq (y := 1) h]; rfl
  next notZero notOne =>
    have zero : c.toNat ≠ 0 := notZero
    have one : c.toNat ≠ 1 := notOne
    rw [if_pos (by omega)]

theorem isSome_boolOf_iff (c : Byte) : (boolOf c).isSome = true ↔ ¬1 < c.toNat := by
  rw [boolOf_eq]; split_ifs with h <;> simp [h]

theorem isSome_barModeOf_iff (c : Byte) : (barModeOf c).isSome = true ↔ ¬1 < c.toNat := by
  rw [barModeOf_eq]; split_ifs with h <;> simp [h]

theorem weighFirstBad_eq (w : WeighRec) (cs : List CycleRec) : weighFirstBad w cs =
    if w.nCyl < 1 ∨ 2 < w.nCyl then some 0
    else if w.aHead < 100 ∨ 2000 < w.aHead then some 1
    else if w.aRod < 50 ∨ w.aHead - 1 < w.aRod then some 2
    else if w.thetaStart < -600 ∨ 700 < w.thetaStart ∨ (∃ c ∈ cs, w.thetaStart ≤ c.thetaLow) then some 3
    else if w.thetaEnd < -600 ∨ 700 < w.thetaEnd ∨ w.thetaEnd < w.thetaStart + 80 ∨ (∃ c ∈ cs, c.thetaDump < w.thetaEnd)
      then some 4
    else if w.filter ≠ 1 ∧ w.filter ≠ 2 ∧ w.filter ≠ 4 ∧ w.filter ≠ 8 then some 5
    else if w.minS < 1 ∨ 16 < w.minS then some 6
    else if w.minB < 1 ∨ 8 < w.minB then some 7
    else if w.kp < -100 ∨ 100 < w.kp then some 8
    else if w.pitchLimit < 0 ∨ 300 < w.pitchLimit then some 9
    else if w.wtMax < 10 ∨ 200 < w.wtMax then some 10
    else none := by
  have thetaStart : (inRange (-600) 700 w.thetaStart && cs.all (fun c => decide (c.thetaLow < w.thetaStart))) = true ↔
      ¬(w.thetaStart < -600 ∨ 700 < w.thetaStart ∨ (∃ c ∈ cs, w.thetaStart ≤ c.thetaLow)) := by
    simp [inRange, and_assoc]
  have thetaEnd : (inRange (-600) 700 w.thetaEnd && decide (w.thetaStart + 80 ≤ w.thetaEnd)
      && cs.all (fun c => decide (w.thetaEnd ≤ c.thetaDump))) = true ↔
      ¬(w.thetaEnd < -600 ∨ 700 < w.thetaEnd ∨ w.thetaEnd < w.thetaStart + 80 ∨ (∃ c ∈ cs, c.thetaDump < w.thetaEnd)) := by
    simp [inRange, and_assoc]
  have filter : (w.filter == 1 || w.filter == 2 || w.filter == 4 || w.filter == 8) = true ↔
      ¬(w.filter ≠ 1 ∧ w.filter ≠ 2 ∧ w.filter ≠ 4 ∧ w.filter ≠ 8) := by
    simp only [Bool.or_eq_true, beq_iff_eq]; omega
  simp only [weighFirstBad, firstFailing_cons_of (inRange_iff_not _ _ _), firstFailing_cons_of (natInRange_iff_not _ _ _),
    firstFailing_cons_of thetaStart, firstFailing_cons_of thetaEnd, firstFailing_cons_of filter, firstFailing_nil,
    apply_ite (Option.map _), Option.map_some, Option.map_none]

theorem cycleFirstBad_eq (c : CycleRec) (w : WeighRec) : cycleFirstBad c w =
    if c.thetaLow < -600 ∨ 700 < c.thetaLow ∨ w.thetaStart ≤ c.thetaLow then some 0
    else if c.thetaDump < -600 ∨ 700 < c.thetaDump ∨ c.thetaDump < w.thetaEnd then some 1
    else if c.phiDump < -900 ∨ 900 < c.phiDump then some 2
    else if c.hyst < 2 ∨ 50 < c.hyst then some 3
    else if c.dumpDwell < 50 ∨ 2000 < c.dumpDwell ∨ c.dumpDwell % 10 ≠ 0 then some 4
    else none := by
  have thetaLow : (inRange (-600) 700 c.thetaLow && decide (c.thetaLow < w.thetaStart)) = true ↔
      ¬(c.thetaLow < -600 ∨ 700 < c.thetaLow ∨ w.thetaStart ≤ c.thetaLow) := by
    simp [inRange, and_assoc]
  have thetaDump : (inRange (-600) 700 c.thetaDump && decide (w.thetaEnd ≤ c.thetaDump)) = true ↔
      ¬(c.thetaDump < -600 ∨ 700 < c.thetaDump ∨ c.thetaDump < w.thetaEnd) := by
    simp [inRange, and_assoc]
  have dwell : (natInRange 50 2000 c.dumpDwell && c.dumpDwell % 10 == 0) = true ↔
      ¬(c.dumpDwell < 50 ∨ 2000 < c.dumpDwell ∨ c.dumpDwell % 10 ≠ 0) := by
    simp [natInRange, and_assoc]
  simp only [cycleFirstBad, firstFailing_cons_of (inRange_iff_not _ _ _), firstFailing_cons_of thetaLow,
    firstFailing_cons_of thetaDump, firstFailing_cons_of dwell, firstFailing_nil, apply_ite (Option.map _), Option.map_some,
    Option.map_none]

/-- Settles O46. -/
theorem thresholdChecks : Obligations.ThresholdChecks := by
  unfold Obligations.ThresholdChecks
  exact ⟨weighFirstBad_eq, cycleFirstBad_eq⟩

theorem loadFirstBad_eq (w : LoadWire) : loadFirstBad w =
    if w.bucketVol.toNat < 100 ∨ 3000 < w.bucketVol.toNat then some 0
    else if 20 < w.tol.toNat then some 1
    else if 20 < w.ovr.toNat then some 2
    else if 1 < w.autoClose.toNat then some 3
    else if 1 < w.barMode.toNat then some 4
    else none := by
  simp only [loadFirstBad, firstFailing_cons_of (natInRange_iff_not 100 _ _), firstFailing_cons_of (natInRange_zero_iff_not _ _),
    firstFailing_cons_of (isSome_boolOf_iff _), firstFailing_cons_of (isSome_barModeOf_iff _), firstFailing_nil,
    apply_ite (Option.map _), Option.map_some, Option.map_none]

theorem loadOfWire_of_good {w : LoadWire} (auto : ¬1 < w.autoClose.toNat) (bar : ¬1 < w.barMode.toNat) :
    loadOfWire w = ⟨w.bucketVol.toNat, w.tol.toNat, w.ovr.toNat, decide (w.autoClose = 1),
      if w.barMode = 0 then .loadProgress else .passFill⟩ := by
  unfold loadOfWire
  rw [boolOf_eq, barModeOf_eq, if_neg auto, if_neg bar]; rfl

theorem stripFirstBad_eq (w : StripWire) : stripFirstBad w =
    if w.refresh.toNat < 20 ∨ 200 < w.refresh.toNat ∨ w.refresh.toNat % 10 ≠ 0 then some 0
    else if w.advisoryHold.toNat < 5 ∨ 100 < w.advisoryHold.toNat then some 1
    else if 1 < w.mirror.toNat then some 2
    else none := by
  have refresh : (natInRange 20 200 w.refresh.toNat && w.refresh.toNat % 10 == 0) = true ↔
      ¬(w.refresh.toNat < 20 ∨ 200 < w.refresh.toNat ∨ w.refresh.toNat % 10 ≠ 0) := by
    simp [natInRange, and_assoc]
  simp only [stripFirstBad, firstFailing_cons_of refresh, firstFailing_cons_of (natInRange_iff_not 5 _ _),
    firstFailing_cons_of (isSome_boolOf_iff _), firstFailing_nil, apply_ite (Option.map _), Option.map_some, Option.map_none]

theorem materialFirstBad_eq (w : MaterialWire) : materialFirstBad w =
    if 7 < w.index.toNat then some 0
    else if w.nameLength.toNat < 1 ∨ 8 < w.nameLength.toNat then some 1
    else if w.density.toNat < 800 ∨ 3000 < w.density.toNat then some 2
    else none := by
  simp only [materialFirstBad, firstFailing_cons_of (natInRange_zero_iff_not _ _), firstFailing_cons_of (natInRange_iff_not _ _ _),
    firstFailing_nil, apply_ite (Option.map _), Option.map_some, Option.map_none]

theorem materialIndex_of_eq {b : Byte} {k : Fin 8} (h : b.toNat = k.val) : materialIndex b = k :=
  Fin.ext (by show b.toNat % 8 = k.val; omega)

/-! ### An order's answer on a ready port -/

section

variable {p : Port} {s : State} {order : State → Answer} {t : State} {r : ResultCode} {b : List Byte}

theorem live_takeOrder_of_eq (hs : s.ready p) (answer : order s = ⟨t, r, b⟩) :
    live s (State.takeOrder p order) = .next (t.answered p r b) := by
  rw [live_takeOrder_ready hs, answer]

/-! ### SAMPLE, LOAD, STRIP and the materials -/

theorem paceRateOf_code (x : PaceRate) : paceRateOf x.code = some x := by cases x <;> rfl

theorem paceRateOf_eq_none {c : Byte} (h : 3 < c.toNat) : paceRateOf c = none := by
  unfold paceRateOf
  split
  · omega
  · omega
  · omega
  · omega
  · rfl

theorem orderWriteSample_of_rate {c : Byte} {x : PaceRate} (h : paceRateOf c = some x) :
    orderWriteSample c s =
      Answer.done { s with sp := if s.sp.sampling = .running then { s.sp with paceRate := x }.startPacing
        else { s.sp with paceRate := x } } := by
  unfold orderWriteSample; rw [h]

theorem orderWriteLoad_eq (w : LoadWire) (s : State) : orderWriteLoad w s =
    if w.bucketVol.toNat < 100 ∨ 3000 < w.bucketVol.toNat then Answer.badParam s 0
    else if 20 < w.tol.toNat then Answer.badParam s 1
    else if 20 < w.ovr.toNat then Answer.badParam s 2
    else if 1 < w.autoClose.toNat then Answer.badParam s 3
    else if 1 < w.barMode.toNat then Answer.badParam s 4
    else Answer.done (State.recomputeLoad { s with lt.settings := loadOfWire w }) := by
  unfold orderWriteLoad
  rw [loadFirstBad_eq]
  split_ifs <;> rfl

theorem orderWriteStrip_eq (w : StripWire) (s : State) : orderWriteStrip w s =
    if w.refresh.toNat < 20 ∨ 200 < w.refresh.toNat ∨ w.refresh.toNat % 10 ≠ 0 then Answer.badParam s 0
    else if w.advisoryHold.toNat < 5 ∨ 100 < w.advisoryHold.toNat then Answer.badParam s 1
    else if 1 < w.mirror.toNat then Answer.badParam s 2
    else Answer.done { s with sd.settings := stripOfWire w } := by
  unfold orderWriteStrip
  rw [stripFirstBad_eq]
  split_ifs <;> rfl

theorem orderWriteMaterial_eq (w : MaterialWire) (s : State) : orderWriteMaterial w s =
    if 7 < w.index.toNat then Answer.badParam s 0
    else if w.nameLength.toNat < 1 ∨ 8 < w.nameLength.toNat then Answer.badParam s 1
    else if w.density.toNat < 800 ∨ 3000 < w.density.toNat then Answer.badParam s 2
    else Answer.done { s with lt.materials := s.lt.materials.set (materialIndex w.index) (materialOfWire w) } := by
  unfold orderWriteMaterial
  rw [materialFirstBad_eq]
  split_ifs <;> rfl

end

/-- Settles O45: each write by its first failing field, then by the record that passes. -/
theorem plainWrites : Obligations.PlainWrites := by
  unfold Obligations.PlainWrites
  intro p s hs
  have write : ∀ order : State → Answer, live s (State.takeOrder p order) =
      .next ((order s).state.answered p (order s).result (order s).reply) := live_takeOrder_ready hs
  refine ⟨fun rate => ⟨fun high => ?badRate, ?_⟩, fun w => ?load, fun w => ?strip, fun i => ⟨fun high => ?noMaterial, fun k index => ?material⟩,
    fun w => ⟨fun high => ?badIndex, fun k index => ?writeMaterial⟩⟩
  case badRate =>
    refine live_takeOrder_of_eq hs ?_
    unfold orderWriteSample
    rw [paceRateOf_eq_none high]; rfl
  · rintro r rfl
    have written := orderWriteSample_of_rate (s := s) (paceRateOf_code r)
    refine ⟨fun stopped => live_takeOrder_of_eq hs ?_, ?_, fun running on => live_takeOrder_of_eq hs ?_⟩
    · rw [written, if_neg (by simp [stopped])]; rfl
    · rintro running rfl
      refine live_takeOrder_of_eq hs ?_
      rw [written, if_pos running]; rfl
    · rw [written, if_pos running, Sp.startPacing, if_neg on]; rfl
  case load =>
    refine (write _).trans (congrArg _ ?_)
    rw [orderWriteLoad_eq]
    split_ifs with vol tol ovr auto bar mode
    · rfl
    · rfl
    · rfl
    · rfl
    · rfl
    · rw [loadOfWire_of_good auto bar, if_pos mode]; rfl
    · rw [loadOfWire_of_good auto bar, if_neg mode]; rfl
  case strip =>
    refine (write _).trans (congrArg _ ?_)
    rw [orderWriteStrip_eq]
    split_ifs with refresh hold mirror
    · rfl
    · rfl
    · rfl
    · have record : stripOfWire w = ⟨w.refresh.toNat, w.advisoryHold.toNat, decide (w.mirror = 1)⟩ := by
        unfold stripOfWire
        rw [boolOf_eq, if_neg mirror]; rfl
      rw [record]; rfl
  case noMaterial =>
    refine live_takeOrder_of_eq hs (if_neg ?_)
    rwa [natInRange_zero_iff_not, not_not]
  case material =>
    refine live_takeOrder_of_eq hs ?_
    unfold orderReadMaterial
    rw [if_pos ((natInRange_zero_iff_not _ _).2 (by omega)), materialIndex_of_eq index]; rfl
  case badIndex =>
    refine live_takeOrder_of_eq hs ?_
    rw [orderWriteMaterial_eq, if_pos high]; rfl
  case writeMaterial =>
    refine (write _).trans (congrArg _ ?_)
    rw [orderWriteMaterial_eq, if_neg (by omega), materialIndex_of_eq index]
    split_ifs <;> rfl

/-! ### WEIGH and CYCLE (R50, R73 to R76, R93) -/

section

variable {p : Port} {s t : State}

/-- An order that leaves the lines, the samples, the ports and the exchange beside the notices leaves them so when it is answered. -/
theorem State.restKept.answered (h : s.restKept t) (sp : t.sp = s.sp) (r : ResultCode) (b : List Byte) :
    s.orderRestKept p (t.answered p r b) := by
  obtain ⟨lm, ports, ex, sd, held, choices, pending⟩ := h
  have hold : t.ex.hold = s.ex.hold := by rw [ex]
  have holdTimer : t.ex.holdTimer = s.ex.holdTimer := by rw [ex]
  refine ⟨lm, sp, ?_, ?_, ?_, sd, held, choices, pending⟩
  · simp [State.answered, ports]
  · simp [State.answered]
  · simp only [State.answered, hold, holdTimer]
    rw [ex]

theorem Tracker.appliesAtOnce_iff (c : Tracker) :
    c.appliesAtOnce = true ↔ c = .stopped ∨ c = .sensorWait ∨ c = .parked ∨ c = .low := by
  cases c <;> simp [Tracker.appliesAtOnce]

theorem heldByOther_iff : s.heldByOther p = true ↔ s.ex.hold = some (other p) := beq_iff_eq

theorem orderWriteWeigh_held (w : WeighWire) (h : s.ex.hold = some (other p)) : orderWriteWeigh p w s = Answer.refuse s .held :=
  if_pos (heldByOther_iff.2 h)

theorem orderWriteCycle_held (w : CycleWire) (h : s.ex.hold = some (other p)) : orderWriteCycle p w s = Answer.refuse s .held :=
  if_pos (heldByOther_iff.2 h)

theorem orderWriteWeigh_bad {w : WeighWire} {i : Nat} (h : s.ex.hold ≠ some (other p))
    (bad : weighFirstBad (weighOfWire w) (s.ct.cycle :: s.ct.pendingCycle.toList) = some i) :
    orderWriteWeigh p w s = Answer.badParam s i := by
  unfold orderWriteWeigh
  rw [if_neg (mt heldByOther_iff.1 h), bad]

theorem orderWriteCycle_bad {w : CycleWire} {i : Nat} (h : s.ex.hold ≠ some (other p))
    (bad : cycleFirstBad (cycleOfWire w) (s.we.pendingWeigh.getD s.we.weigh) = some i) :
    orderWriteCycle p w s = Answer.badParam s i := by
  unfold orderWriteCycle
  rw [if_neg (mt heldByOther_iff.1 h), bad]

theorem orderWriteWeigh_good {w : WeighWire} (h : s.ex.hold ≠ some (other p))
    (good : weighFirstBad (weighOfWire w) (s.ct.cycle :: s.ct.pendingCycle.toList) = none) :
    orderWriteWeigh p w s =
      Answer.done (if s.ct.tracker.appliesAtOnce then s.applyWeigh (weighOfWire w)
        else { s with we.pendingWeigh := some (weighOfWire w) }) := by
  unfold orderWriteWeigh
  rw [if_neg (mt heldByOther_iff.1 h), good]; rfl

theorem orderWriteCycle_good {w : CycleWire} (h : s.ex.hold ≠ some (other p))
    (good : cycleFirstBad (cycleOfWire w) (s.we.pendingWeigh.getD s.we.weigh) = none) :
    orderWriteCycle p w s =
      Answer.done (if s.ct.tracker.appliesAtOnce then
          State.applyPendingWeigh { s with ct.cycle := cycleOfWire w, ct.pendingCycle := none }
        else { s with ct.pendingCycle := some (cycleOfWire w) }) := by
  unfold orderWriteCycle
  rw [if_neg (mt heldByOther_iff.1 h), good]; rfl

/-- What no WEIGH record touches when it comes into force (R75, R93). -/
theorem applyWeigh_keeps (r : WeighRec) (s : State) :
    (s.applyWeigh r).we = { s.we with weigh := r, pendingWeigh := none } ∧ (s.applyWeigh r).ct = s.ct
      ∧ (s.applyWeigh r).lt = s.lt ∧ (s.applyWeigh r).lq = s.lq ∧ (s.applyWeigh r).sp = s.sp ∧ s.restKept (s.applyWeigh r) := by
  by_cases same : s.we.weigh.sameGeometry r = true
  · rw [State.applyWeigh_same same]
    exact ⟨rfl, rfl, rfl, rfl, rfl, rfl, rfl, rfl, rfl, rfl, rfl, rfl⟩
  · rw [State.applyWeigh_other (Bool.eq_false_of_not_eq_true same)]
    by_cases idle : s.cu.cal = .idle
    · rw [State.geometryChange_idle (s := { s with we.weigh := r, we.pendingWeigh := none }) idle]
      exact ⟨rfl, rfl, rfl, rfl, rfl, rfl, rfl, rfl, rfl, rfl, rfl, rfl⟩
    · rw [State.geometryChange_running (s := { s with we.weigh := r, we.pendingWeigh := none }) idle]
      exact ⟨rfl, rfl, rfl, rfl, rfl, rfl, rfl, rfl, rfl, rfl, rfl, rfl⟩

end

/-- Settles O47: the hold, the checks, and the placing of a record that passes. -/
theorem thresholdWrites : Obligations.ThresholdWrites := by
  unfold Obligations.ThresholdWrites
  intro p ww cw s hs
  dsimp only
  simp only [← Tracker.appliesAtOnce_iff]
  refine ⟨fun held => ⟨live_takeOrder_of_eq hs (orderWriteWeigh_held ww held),
      live_takeOrder_of_eq hs (orderWriteCycle_held cw held)⟩,
    fun free => ⟨fun i bad => live_takeOrder_of_eq hs (orderWriteWeigh_bad free bad),
      fun i bad => live_takeOrder_of_eq hs (orderWriteCycle_bad free bad),
      fun good => ?weigh, fun good => ?cycle⟩⟩
  case weigh =>
    have written := orderWriteWeigh_good free good
    refine ⟨fun later => ?_, fun now same => ?_, fun now other idle => ?_, fun now other running => ?_⟩
    · rw [if_neg later] at written
      exact live_takeOrder_of_eq hs written
    · rw [if_pos now, State.applyWeigh_same ((WeighRec.sameGeometry_iff _ _).2 same)] at written
      exact live_takeOrder_of_eq hs written
    · rw [if_pos now, State.applyWeigh_other (Bool.eq_false_of_not_eq_true (mt (WeighRec.sameGeometry_iff _ _).1 other)),
        State.geometryChange_idle (s := { s with we.weigh := weighOfWire ww, we.pendingWeigh := none }) idle] at written
      exact live_takeOrder_of_eq hs written
    · rw [if_pos now, State.applyWeigh_other (Bool.eq_false_of_not_eq_true (mt (WeighRec.sameGeometry_iff _ _).1 other)),
        State.geometryChange_running (s := { s with we.weigh := weighOfWire ww, we.pendingWeigh := none }) running] at written
      exact ⟨_, live_takeOrder_of_eq hs written, rfl, rfl, Ex.raisedBoth_isPending .calFailed _, rfl, rfl, rfl, rfl,
        State.restKept.answered ⟨rfl, rfl, rfl, rfl, rfl, rfl, rfl⟩ rfl _ _⟩
  case cycle =>
    have written := orderWriteCycle_good free good
    refine ⟨fun later => ?_, fun now none => ?_, fun v pending now => ?_⟩
    · rw [if_neg later] at written
      exact live_takeOrder_of_eq hs written
    · rw [if_pos now, State.applyPendingWeigh] at written
      simp only [none] at written
      exact live_takeOrder_of_eq hs written
    · rw [if_pos now, State.applyPendingWeigh_eq] at written
      simp only [pending, Option.getD_some] at written
      obtain ⟨we, ct, lt, lq, sp, rest⟩ := applyWeigh_keeps v { s with ct.cycle := cycleOfWire cw, ct.pendingCycle := none }
      exact ⟨_, live_takeOrder_of_eq hs written, ct, we, lt, lq, State.restKept.answered rest sp _ _⟩

end Sys2Proof.Machine
end

section
/-! The orders that only read, field by field (Table 11-2 to Table 11-4), and RUN and STOP (R1, R31, R32). -/

namespace Sys2Proof.Machine

open Sys2Proof

/-! ### Codes (Table 11-2) -/

theorem PassFlags.code_getLsbD (f : PassFlags) (k : Nat) :
    f.code.getLsbD k = [f.short, f.gapped, f.clipped, f.slope, f.range, f.uncal, f.reweighed, f.tipped].getD k false :=
  byteOfFlags_getLsbD (by simp) k

theorem WinMarks.code_getLsbD (m : WinMarks) (k : Nat) : m.code.getLsbD k = [m.gapped, m.clipped, m.slope].getD k false :=
  byteOfFlags_getLsbD (by simp) k

/-! ### Lengths of the replies (Table 11-3) -/

@[simp] theorem length_i8 (x : Int) : (i8 x).length = 1 := rfl

@[simp] theorem length_i16 (x : Int) : (i16 x).length = 2 := rfl

@[simp] theorem length_optField_u8 (o : Option Nat) : (optField 1 u8 o).length = 2 := length_optField length_u8 o

@[simp] theorem length_optField_u16 (o : Option Nat) : (optField 2 u16 o).length = 3 := length_optField length_u16 o

@[simp] theorem length_optField_i16 (o : Option Int) : (optField 2 i16 o).length = 3 := length_optField length_i16 o

@[simp] theorem length_optField_u32 (o : Option Nat) : (optField 4 u32 o).length = 5 := length_optField length_u32 o

@[simp] theorem length_optField_i32 (o : Option Int) : (optField 4 i32 o).length = 5 := length_optField length_i32 o

@[simp] theorem length_optField_code {α : Type} (code : α → Byte) (o : Option α) : (optField 1 (fun x => [code x]) o).length = 2 :=
  length_optField (w := 1) (fun _ => rfl) o

theorem length_heldBytes (x : Option Pass) : (heldBytes x).length = 11 := by
  cases x <;> simp [heldBytes]

theorem length_liveRecord (s : State) : s.liveRecord.length = 63 := by
  unfold State.liveRecord
  simp only [List.length_append, length_heldBytes, length_optField_u16, length_optField_i16, length_optField_u32,
    length_optField_i32, length_optField_code AbortCause.code, length_optField_code fun o : CalOutcome => o.result.code,
    length_optField_code CalCause.code]
  rfl

theorem length_assignmentBytes (x : Option Assignment) : (assignmentBytes x).length = 11 := by
  cases x <;> simp [assignmentBytes]

theorem length_forcesBytes (v : Eight Int) : (forcesBytes v).length = 32 := by
  simp [forcesBytes, Eight.toList]

theorem length_outcomeBytes (o : Option CalOutcome) : (outcomeBytes o).length = 17 := by
  cases o <;> simp [outcomeBytes]

theorem length_tableRecord (s : State) : s.tableRecord.length = 126 := by
  unfold State.tableRecord
  split_ifs <;> simp [length_forcesBytes, length_outcomeBytes, length_optField length_forcesBytes]

theorem Counters.length_bytes (c : Counters) : c.bytes.length = 23 := by simp [Counters.bytes]

theorem ShiftSummary.length_bytes (m : ShiftSummary) : m.bytes.length = 27 := by
  simp [ShiftSummary.bytes, Counters.length_bytes]

theorem length_lastSummaryBytes (m : Option ShiftSummary) : (lastSummaryBytes m).length = 28 :=
  length_optField ShiftSummary.length_bytes m

/-! ### The fields of the replies (Table 11-4) -/

theorem CalState.hasScratchTare_iff (c : CalState) :
    c.hasScratchTare = true ↔ c = .loadedWait ∨ c = .loadedArmed ∨ c = .loadedLift := by
  cases c <;> decide

theorem CalState.hasScratchMref_iff (c : CalState) : c.hasScratchMref = true ↔ c = .loadedArmed ∨ c = .loadedLift := by
  cases c <;> decide

theorem bit8_isSome {α : Type} [DecidableEq α] (o : Option α) : bit8 o.isSome = if o = none then 0 else 1 := by
  cases o <;> rfl

theorem PassEntry.bytes_eq :
    PassEntry.bytes = fun e => u8 e.number ++ optField 4 i32 e.mass ++ [e.flags.code] ++ u32 e.credited := rfl

/-- Settles O44: the codes bit by bit and value by value, then each read with the length and the fields of its record. -/
theorem readOrders : Obligations.ReadOrders := by
  unfold Obligations.ReadOrders
  refine ⟨fun f m k => ⟨?passFlags, ?winMarks⟩, ?codes, fun p s hs => ?_⟩
  case passFlags =>
    rw [PassFlags.code_getLsbD]
    match k with
    | 0 | 1 | 2 | 3 | 4 | 5 | 6 | 7 | _ + 8 => rfl
  case winMarks =>
    rw [WinMarks.code_getLsbD]
    match k with
    | 0 | 1 | 2 | _ + 3 => rfl
  case codes => and_intros <;> rfl
  dsimp only
  refine ⟨⟨_, live_takeOrder_of_eq hs rfl, length_liveRecord s, ?live⟩, ⟨_, live_takeOrder_of_eq hs rfl, ?loadLength, ?load⟩,
    ⟨_, live_takeOrder_of_eq hs rfl, length_tableRecord s, ?table⟩, ⟨_, live_takeOrder_of_eq hs rfl, ?shiftLength, ?shift⟩,
    live_takeOrder_of_eq hs rfl, live_takeOrder_of_eq hs ?weigh, live_takeOrder_of_eq hs ?cycle, live_takeOrder_of_eq hs ?loadSettings,
    live_takeOrder_of_eq hs ?lines, live_takeOrder_of_eq hs ?strip⟩
  case live =>
    unfold State.liveRecord heldBytes
    cases held : s.lt.held <;> cases outcome : s.cu.outcome <;> simp [bit8, u8, optField]
  case loadLength =>
    simp [Load.length_bytes, length_assignmentBytes]; omega
  case load =>
    unfold Load.bytes assignmentBytes State.remaining
    rw [PassEntry.bytes_eq]
    cases next : s.lt.nextTruck <;> simp [u8]
  case table =>
    unfold State.tableRecord outcomeBytes
    simp only [CalState.hasScratchTare_iff, CalState.hasScratchMref_iff]
    cases outcome : s.cu.outcome <;> simp [forcesBytes]
    all_goals rfl
  case shiftLength =>
    simp [Counters.length_bytes, length_lastSummaryBytes, oldestField]
  case shift =>
    unfold lastSummaryBytes oldestField Counters.bytes
    cases last : s.lq.lastSummary <;> simp [optField, ShiftSummary.bytes, Counters.bytes]
  case weigh => rw [orderReadWeigh, settingsReply, bit8_isSome]; rfl
  case cycle => rw [orderReadCycle, settingsReply, bit8_isSome]; rfl
  case loadSettings => simp [orderReadLoad, settingsReply, LoadRec.bytes, bit8, Answer.read]
  case lines => simp [orderReadLines, settingsReply, LinesRec.bytes, bit8, Answer.read, eightIndices, List.range_succ]
  case strip => rfl

/-! ### Weigh aborts (R40) -/

section

variable {p : Port} {s : State}

/-- An abort, apart from the tracker, is what R40 says. -/
theorem weighAborted_abortWeigh (c : AbortCause) (s : State) : s.weighAborted (s.abortWeigh c) := by
  rw [State.abortWeigh_eq, CalState.abortWindow_eq]
  exact ⟨rfl, rfl, rfl, ⟨rfl, rfl, rfl, rfl, fun b => ⟨Eight.get_fill _ _, Eight.get_fill _ _⟩⟩, ⟨rfl, rfl, rfl, rfl, rfl⟩, rfl, rfl,
    rfl, Ex.raisedBoth_isPending .weighAbort _⟩

/-- What a state after an abort is read for. -/
theorem State.weighAborted.of_eq {t u : State} (h : s.weighAborted t) (cause : u.ct.abortCause = t.ct.abortCause)
    (timer : u.ct.windowTimer = .stopped) (high : u.ct.highTheta = none) (we : u.we = t.we) (cu : u.cu = t.cu) (lt : u.lt = t.lt)
    (lq : u.lq = t.lq) (pending : u.ex.pending = t.ex.pending) : s.weighAborted u := by
  unfold State.weighAborted at h ⊢
  obtain ⟨abortCause, -, -, rest⟩ := h
  rw [cause, we, cu, lt, lq, pending]
  exact ⟨abortCause, timer, high, rest⟩

/-! ### RUN and STOP (R1, R31, R32) -/

theorem orderRun_running (running : s.sp.sampling = .running) (tracking : s.ct.tracker ≠ .stopped) :
    orderRun s = Answer.done s := by
  unfold orderRun State.samplingRun
  rw [running]
  exact congrArg Answer.done (if_neg tracking)

theorem samplingRun_stopped (stopped : s.sp.sampling = .stopped) :
    s.samplingRun = { s with
      sp := { s.sp with
        sampling := .running, seqExpect := none, lastTheta := none, lastPhi := none, lastPsi := none, heldAngle := 0
        sensorFault := false, cleanRun := 0, lossTimer := .started
        pacer := if s.sp.paceRate = .off then .stopped else .started
        pace := decide (s.sp.paceRate ≠ .off)
        pacePulses := s.sp.pacePulses + if s.sp.paceRate = .off then 0 else 1 }
      we.history := [], we.latestF := none } := by
  unfold State.samplingRun
  rw [stopped]
  by_cases off : s.sp.paceRate = .off
  · simp [Sp.startPacing, off, We.emptyHistory]
  · simp [Sp.startPacing, off, We.emptyHistory, Sp.pulse]

theorem trackerRun_stopped (stopped : s.ct.tracker = .stopped) :
    s.trackerRun = { s with
      ct.tracker := if s.ct.park then .parked else .sensorWait
      ct.windowTimer := .stopped, ct.dwellTimer := .stopped, ct.belowStart := false, ct.highTheta := none
      ct.latestCycle := none, ct.cycleRef := .started } := if_pos stopped

theorem orderStop_stopped (stopped : s.sp.sampling = .stopped) (tracker : s.ct.tracker = .stopped) :
    orderStop s = Answer.done s := by
  unfold orderStop State.trackerStop State.samplingStop
  rw [if_pos tracker, stopped]

theorem samplingStop_running (running : s.sp.sampling = .running) :
    s.samplingStop =
      { s with sp.sampling := .stopped, sp.pacer := .stopped, sp.pace := false, sp.lossTimer := .stopped } := by
  unfold State.samplingStop; rw [running]

theorem trackerStop_eq (tracking : s.ct.tracker ≠ .stopped) :
    s.trackerStop = { s.abortIfWeighing .stopped with
      ct := { (s.abortIfWeighing .stopped).ct.standDown with tracker := .stopped, cycleRef := .stopped } } := if_neg tracking

end

/-- Settles O43: by the sampling state and the tracker state. -/
theorem runStop : Obligations.RunStop := by
  unfold Obligations.RunStop
  refine fun p s hs => ⟨fun stopped tracker => ⟨?run, ?stop⟩, fun running tracking => ?running, fun running tracking other => ?stopped,
    fun running weighing => ?aborted⟩
  case run =>
    refine live_takeOrder_of_eq hs ?_
    rw [orderRun, samplingRun_stopped stopped, trackerRun_stopped (by exact tracker)]; rfl
  case stop => exact live_takeOrder_of_eq hs (orderStop_stopped stopped tracker)
  case running => exact live_takeOrder_of_eq hs (orderRun_running running tracking)
  case stopped =>
    refine live_takeOrder_of_eq hs ?_
    rw [orderStop, trackerStop_eq tracking, State.abortIfWeighing_other other, samplingStop_running (by exact running)]; rfl
  case aborted =>
    have sampling : (s.abortWeigh .stopped).sp = s.sp := by rw [State.abortWeigh_eq]
    have strip : (s.abortWeigh .stopped).sd = s.sd := by rw [State.abortWeigh_eq]; rfl
    have cause : (s.abortWeigh .stopped).ct.abortCause = some .stopped := by rw [State.abortWeigh_eq]
    have high : (s.abortWeigh .stopped).ct.highTheta = none := by rw [State.abortWeigh_eq]
    have stopped : orderStop s = Answer.done s.trackerStop.samplingStop := rfl
    rw [trackerStop_eq (by rw [weighing]; decide), State.abortIfWeighing_weighing weighing,
      samplingStop_running (by show (s.abortWeigh .stopped).sp.sampling = _; rw [sampling, running])] at stopped
    refine ⟨_, live_takeOrder_of_eq hs stopped, (weighAborted_abortWeigh .stopped s).of_eq rfl rfl high rfl rfl rfl rfl rfl, rfl, cause,
      rfl, rfl, rfl, rfl, strip, ?_⟩
    simp [State.answered, ResultCode.code]

end Sys2Proof.Machine
end

section
/-! The orders on targets, loads, the hold and the calibration (R81 to R94, R107 to R111, R134, R154 to R157). -/

namespace Sys2Proof.Machine

open Sys2Proof

section

variable {p : Port} {s t : State}

/-! ### SET_TARGET and SET_NEXT (R103, R110, R111) -/

theorem optPasses_iff {w lo hi : Nat} (o : OptWire w) :
    optPasses lo hi o = true ↔ o.presence = 0 ∨ o.presence = 1 ∧ lo ≤ o.value.toNat ∧ o.value.toNat ≤ hi := by
  simp [optPasses, natInRange]

theorem targetFirstBad_eq (w : TargetWire) : targetFirstBad w =
    if ¬(w.truck.presence = 0 ∨ w.truck.presence = 1 ∧ 1 ≤ w.truck.value.toNat ∧ w.truck.value.toNat ≤ 9999) then some 0
    else if 7 < w.material.toNat then some 1
    else if ¬(w.target.presence = 0
        ∨ w.target.presence = 1 ∧ 1000 ≤ w.target.value.toNat ∧ w.target.value.toNat ≤ 200000) then some 2
    else none := by
  simp only [targetFirstBad, firstFailing_cons_of ((optPasses_iff _).trans not_not.symm),
    firstFailing_cons_of (natInRange_zero_iff_not _ _), firstFailing_nil, apply_ite (Option.map _), Option.map_some, Option.map_none]

theorem first_of_three {P Q R : Prop} [Decidable P] [Decidable Q] [Decidable R] (h : P ∨ Q ∨ R) :
    ∃ k, (if P then some 0 else if Q then some 1 else if R then some 2 else none) = some k
      ∧ u8 k = [if P then 0 else if Q then 1 else 2] := by
  by_cases hP : P
  · exact ⟨0, by rw [if_pos hP], by rw [if_pos hP]; rfl⟩
  by_cases hQ : Q
  · exact ⟨1, by rw [if_neg hP, if_pos hQ], by rw [if_neg hP, if_pos hQ]; rfl⟩
  · have hR : R := (h.resolve_left hP).resolve_left hQ
    exact ⟨2, by rw [if_neg hP, if_neg hQ, if_pos hR], by rw [if_neg hP, if_neg hQ]; rfl⟩

theorem optValue_eq {w : Nat} (o : OptWire w) : optValue o = if o.presence = 1 then some o.value.toNat else none := by
  simp [optValue]

/-- What the notice of an entry into TARGET or OVER does (R103). -/
theorem announceLoad_spec (old : LoadState) (s : State) :
    (s.announceLoad old).lt = s.lt ∧ (s.announceLoad old).lq = s.lq ∧ (s.announceLoad old).ct = s.ct
      ∧ (s.announceLoad old).we = s.we ∧ (s.announceLoad old).cu = s.cu ∧ (s.announceLoad old).sp = s.sp
      ∧ s.restKept (s.announceLoad old)
      ∧ (s.lt.load.state = .target → old ≠ .target → ∀ q, ((s.announceLoad old).ex.pending.get q).getLsbD 6 = true)
      ∧ (s.lt.load.state = .over → old ≠ .over → ∀ q, ((s.announceLoad old).ex.pending.get q).getLsbD 7 = true)
      ∧ (s.lt.load.state = old → (s.announceLoad old).ex.pending = s.ex.pending ∧ (s.announceLoad old).sd = s.sd)
      ∧ ∀ q n, (s.ex.pending.get q).getLsbD n = true → ((s.announceLoad old).ex.pending.get q).getLsbD n = true := by
  unfold State.announceLoad
  by_cases same : s.lt.load.state = old
  · rw [if_pos same]
    exact ⟨rfl, rfl, rfl, rfl, rfl, rfl, ⟨rfl, rfl, rfl, rfl, rfl, rfl, rfl⟩, fun now was => absurd (same ▸ now) was,
      fun now was => absurd (same ▸ now) was, fun _ => ⟨rfl, rfl⟩, fun _ _ h => h⟩
  · rw [if_neg same]
    match state : s.lt.load.state with
    | .target =>
      dsimp only
      rw [State.queueAdvisory_eq, State.raiseBoth_eq]
      exact ⟨rfl, rfl, rfl, rfl, rfl, rfl, ⟨rfl, rfl, rfl, rfl, rfl, rfl, rfl⟩,
        fun _ _ => Ex.raisedBoth_isPending .target _, nofun, fun h => absurd (state.trans h) same,
        fun _ _ => Ex.raisedBoth_keepsPending _⟩
    | .over =>
      dsimp only
      rw [State.queueAdvisory_eq, State.raiseBoth_eq]
      exact ⟨rfl, rfl, rfl, rfl, rfl, rfl, ⟨rfl, rfl, rfl, rfl, rfl, rfl, rfl⟩, nofun,
        fun _ _ => Ex.raisedBoth_isPending .over _, fun h => absurd (state.trans h) same,
        fun _ _ => Ex.raisedBoth_keepsPending _⟩
    | .empty =>
      exact ⟨rfl, rfl, rfl, rfl, rfl, rfl, ⟨rfl, rfl, rfl, rfl, rfl, rfl, rfl⟩, nofun, nofun, fun _ => ⟨rfl, rfl⟩, fun _ _ h => h⟩
    | .filling =>
      exact ⟨rfl, rfl, rfl, rfl, rfl, rfl, ⟨rfl, rfl, rfl, rfl, rfl, rfl, rfl⟩, nofun, nofun, fun _ => ⟨rfl, rfl⟩, fun _ _ h => h⟩

theorem Load.withTarget_eq (p : Port) {w : TargetWire} {m : Fin 8} (index : w.material.toNat = m.val) (l : Load) :
    l.withTarget p w = { l with
      truck := if w.truck.presence = 1 then some w.truck.value.toNat else none
      material := m
      target := if w.target.presence = 1 then some w.target.value.toNat else none
      source := if (if w.target.presence = 1 then some w.target.value.toNat else none) = none then none else some p } := by
  unfold Load.withTarget
  rw [optValue_eq, optValue_eq, materialIndex_of_eq index]
  cases (if w.target.presence = 1 then some w.target.value.toNat else none) <;> rfl

/-- The state of an accepted SET_TARGET (R103, R110). -/
def State.retargeted (p : Port) (w : TargetWire) (s : State) : State :=
  (State.recomputeLoad { s with lt.load := s.lt.load.withTarget p w }).announceLoad s.lt.load.state

theorem State.retargeted_lt (w : TargetWire) (s : State) :
    (s.retargeted p w).lt = { s.lt with load := { s.lt.load.withTarget p w with
      state := loadStateOf s.lt.settings (s.lt.load.withTarget p w) } } := by
  obtain ⟨lt, -⟩ := announceLoad_spec s.lt.load.state (State.recomputeLoad { s with lt.load := s.lt.load.withTarget p w })
  exact lt

theorem orderSetTarget_good {w : TargetWire} (passes : targetFirstBad w = none) :
    orderSetTarget p w s = ⟨s.retargeted p w, .ok,
      u16 (s.retargeted p w).lt.load.number ++ [(s.retargeted p w).lt.load.state.code]⟩ := by
  unfold orderSetTarget
  rw [passes]; rfl

/-- Settles O48: the first failing field, else the assignment or the open load's new identity. -/
theorem targetOrders : Obligations.TargetOrders := by
  unfold Obligations.TargetOrders
  intro p w n s hs
  dsimp only
  refine ⟨fun bad i index => ?bad, fun none => ?none, fun m truckOk targetOk index => ?good⟩
  case bad =>
    have first : ∃ k, targetFirstBad w = some k ∧ u8 k = [i] := by
      rw [targetFirstBad_eq, index]; exact first_of_three bad
    obtain ⟨k, first, field⟩ := first
    rw [← field]
    refine ⟨live_takeOrder_of_eq hs ?_, fun check => live_takeOrder_of_eq hs ?_⟩
    · unfold orderSetTarget; rw [first]; rfl
    · unfold orderSetNext; rw [if_neg (by rw [check]; decide), first]; rfl
  case none => exact live_takeOrder_of_eq hs (if_pos none)
  case good =>
    have passes : targetFirstBad w = none := by
      rw [targetFirstBad_eq, if_neg truckOk, if_neg (by omega), if_neg targetOk]
    refine ⟨fun check => live_takeOrder_of_eq hs ?_, ?_⟩
    · unfold orderSetNext
      rw [if_neg (by rw [check]; decide), passes]
      dsimp only
      rw [optValue_eq, optValue_eq, materialIndex_of_eq index]; rfl
    · obtain ⟨lt, lq, ct, we, cu, sp, rest, target, overload, quiet, -⟩ :=
        announceLoad_spec s.lt.load.state (State.recomputeLoad { s with lt.load := s.lt.load.withTarget p w })
      refine ⟨_, live_takeOrder_of_eq hs (orderSetTarget_good passes), ?_, ?_, fun now => target (lt ▸ now), fun now => overload (lt ▸ now),
        fun same => quiet (lt ▸ same), ?_, lq, ct, we, cu, State.restKept.answered rest sp _ _⟩
      · simp only [State.answered, State.retargeted_lt, Load.withTarget_eq p index]
      · simp only [State.answered, State.retargeted_lt]
        exact loadStateOf_congr _ rfl rfl rfl
      · simp [State.answered, State.retargeted_lt, Load.withTarget, ResultCode.code]

/-! ### CLOSE_LOAD and SHIFT_END (R107 to R109, R134, R135) -/

/-- What a close with cause `c` makes of `s` (R108, R109, R122, R123, R131). -/
structure State.ClosedBy (c : CloseCause) (s t : State) : Prop where
  queue : t.lq.queue = (if s.lq.queue.length < 32 then s.lq.queue else s.lq.queue.tail) ++ [closedRecord c s.lt.load]
  counters : t.lq.counters = { s.lq.counters with
    loadsClosed := min 65535 (s.lq.counters.loadsClosed + 1)
    tonnes := min 4294967295 (s.lq.counters.tonnes + s.lt.load.total)
    dropped := if s.lq.queue.length < 32 then s.lq.counters.dropped else min 255 (s.lq.counters.dropped + 1) }
  shiftNo : t.lq.shiftNo = s.lq.shiftNo
  closed : ∀ q, (t.ex.pending.get q).getLsbD 5 = true
  dropped : 32 ≤ s.lq.queue.length → ∀ q, (t.ex.pending.get q).getLsbD 4 = true
  advisories : t.sd.advisories = withAdvisory (.loadClosed s.lt.load.number) s.sd.advisories
  lt : t.lt = s.lt.nextLoad
  ct : t.ct = s.ct
  we : t.we = s.we
  cu : t.cu = s.cu
  sp : t.sp = s.sp
  rest : s.restKept t

theorem State.closedBy_closeLoad (c : CloseCause) (s : State) : s.ClosedBy c (s.closeLoad c) := by
  rw [State.closeLoad_eq]
  have exchange : s.ex.loadClosed s.lq.queue.length =
      { s.ex with pending := (s.ex.loadClosed s.lq.queue.length).pending } := by
    unfold Ex.loadClosed Ex.dropped
    split_ifs <;> rfl
  exact ⟨rfl, rfl, rfl, Ex.loadClosed_isPending _ _, fun full => Ex.loadClosed_isDropped full _, rfl, rfl, rfl, rfl, rfl, rfl,
    ⟨rfl, rfl, exchange, rfl, rfl, rfl, rfl⟩⟩

theorem orderCloseLoad_empty (none : s.lt.load.passes = []) : orderCloseLoad s = Answer.refuse s .empty := by
  unfold orderCloseLoad; rw [if_pos (by rw [none]; rfl)]

theorem orderCloseLoad_some (some : s.lt.load.passes ≠ []) :
    orderCloseLoad s = ⟨s.closeLoad .order, .ok, u16 s.lt.load.number⟩ := by
  unfold orderCloseLoad; rw [if_neg (by simpa using some)]

theorem shiftClose_empty (none : s.lt.load.passes = []) : s.shiftClose = s := by
  unfold State.shiftClose; rw [if_pos (by rw [none]; rfl)]

theorem shiftClose_some (some : s.lt.load.passes ≠ []) : s.shiftClose = s.closeLoad .shift := by
  unfold State.shiftClose; rw [if_neg (by simpa using some)]

theorem shiftSummaryOf_empty (none : s.lt.load.passes = []) (after : State) :
    shiftSummaryOf s after = ⟨after.lq.shiftNo, after.lq.counters, Option.none⟩ := by
  unfold shiftSummaryOf; rw [if_pos (by rw [none]; rfl)]

theorem shiftSummaryOf_some (some : s.lt.load.passes ≠ []) (after : State) :
    shiftSummaryOf s after = ⟨after.lq.shiftNo, after.lq.counters, Option.some s.lt.load.number⟩ := by
  unfold shiftSummaryOf; rw [if_neg (by simpa using some)]

/-- Settles O49: on an empty open load, and on one that has a pass. -/
theorem closeAndShiftEnd : Obligations.CloseAndShiftEnd := by
  unfold Obligations.CloseAndShiftEnd
  intro p s hs
  dsimp only
  refine ⟨fun none => ⟨live_takeOrder_of_eq hs (orderCloseLoad_empty none), live_takeOrder_of_eq hs ?empty⟩, fun some => ?pass⟩
  case empty =>
    unfold orderShiftEnd
    dsimp only
    rw [shiftClose_empty none, shiftSummaryOf_empty none]
    simp [ShiftSummary.bytes, optField, nextShiftNumber, Counters.zero]
  case pass =>
    have closed := State.closedBy_closeLoad .order s
    have shifted := State.closedBy_closeLoad .shift s
    have shiftEnd : orderShiftEnd s = ⟨{ s.closeLoad .shift with
        lq.lastSummary := Option.some (shiftSummaryOf s (s.closeLoad .shift))
        lq.counters := Counters.zero, lq.shiftTimer := .started, lq.shiftNo := nextShiftNumber (s.closeLoad .shift).lq.shiftNo },
        .ok, (shiftSummaryOf s (s.closeLoad .shift)).bytes⟩ := by
      unfold orderShiftEnd; dsimp only; rw [shiftClose_some some]
    rw [shiftSummaryOf_some some] at shiftEnd
    refine ⟨⟨_, live_takeOrder_of_eq hs (orderCloseLoad_some some), ⟨⟨_, closed.queue, rfl, rfl, rfl⟩, closed.counters,
        fun q => ⟨closed.closed q, fun full => closed.dropped full q⟩, closed.advisories, closed.lt, closed.ct, closed.we, closed.cu,
        closed.rest.answered closed.sp _ _⟩, closed.shiftNo, ?_⟩,
      _, _, live_takeOrder_of_eq hs shiftEnd, ⟨⟨_, shifted.queue, rfl, rfl, rfl⟩, shifted.counters,
        fun q => ⟨shifted.closed q, fun full => shifted.dropped full q⟩, shifted.advisories, shifted.lt, shifted.ct, shifted.we,
        shifted.cu, ?_⟩, shifted.shiftNo, rfl, rfl, rfl, rfl, ?_, ?_⟩
    · simp [State.answered, ResultCode.code]
    · obtain ⟨lm, ports, ex, sd, held, choices, pending⟩ := shifted.rest
      exact State.restKept.answered (by exact ⟨lm, ports, ex, sd, held, choices, pending⟩) (by exact shifted.sp) _ _
    · simp only [State.answered, shifted.shiftNo]; rfl
    · simp [State.answered, ResultCode.code]

/-! ### The hold (R154 to R157) -/

theorem holds_iff : s.holds p = true ↔ s.ex.hold = some p := beq_iff_eq

theorem orderTakeHold_free (free : s.ex.hold = none) : orderTakeHold p s = ⟨s.giveHold p, .ok, [0]⟩ := by
  unfold orderTakeHold; rw [free]

theorem orderTakeHold_own (own : s.ex.hold = some p) :
    orderTakeHold p s = ⟨{ s with ex.holdTimer := .started }, .ok, [1]⟩ := by
  unfold orderTakeHold State.giveHold
  rw [own]
  dsimp only
  rw [if_pos rfl, ← own]

theorem orderTakeHold_other (held : s.ex.hold = some (other p)) : orderTakeHold p s = Answer.refuse s .held := by
  unfold orderTakeHold; rw [held]; exact if_neg (other_ne p)

theorem orderDropHold_own (own : s.ex.hold = some p) : orderDropHold p s = Answer.done s.loseHold := if_pos (holds_iff.2 own)

theorem orderDropHold_other (h : s.ex.hold ≠ some p) : orderDropHold p s = Answer.refuse s .notHolder :=
  if_neg (mt holds_iff.1 h)

/-- The loss of the hold ends a running calibration (R92). -/
theorem lossOfHold_loseHold (running : s.cu.cal ≠ .idle) : s.lossOfHold s.loseHold := by
  rw [loseHold_running running]
  exact ⟨rfl, rfl, rfl, Ex.raisedBoth_isPending .calFailed _, rfl, rfl, rfl, rfl, rfl, rfl, rfl, rfl, rfl⟩

theorem holdLapse_early (early : ∀ n, s.ex.holdTimer = .counting n → n < 2000) : s.holdLapse = s := by
  unfold State.holdLapse
  split
  · rfl
  · refine if_neg ?_
    cases timer : s.ex.holdTimer with
    | stopped => exact Bool.false_ne_true
    | started => exact Bool.false_ne_true
    | counting n =>
      have before : n < 2000 := early n timer
      show ¬decide (2000 ≤ n) = true
      simpa using before

theorem holdLapse_due (own : s.ex.hold = some p) (due : s.ex.holdTimer = .counting 2000) :
    s.holdLapse = (s.raise p .holdLapsed).loseHold := by
  unfold State.holdLapse
  rw [own]
  exact if_pos (by rw [due]; decide)

/-- Settles O51: the orders by the holder, and the lapse by the idle timer. -/
theorem holdOrders : Obligations.HoldOrders := by
  unfold Obligations.HoldOrders
  refine fun p s => ⟨fun hs => ⟨fun free => ⟨?_, ?_⟩, fun own => ?_, fun held => ⟨?_, ?_⟩, fun own idle => ?_, fun own running => ?_⟩,
    fun awake own due => ⟨fun idle => ?lapse, fun running => ?loss⟩, fun early => ?early⟩
  · exact live_takeOrder_of_eq hs (orderTakeHold_free free)
  · exact live_takeOrder_of_eq hs (orderDropHold_other (by rw [free]; nofun))
  · exact live_takeOrder_of_eq hs (orderTakeHold_own own)
  · exact live_takeOrder_of_eq hs (orderTakeHold_other held)
  · exact live_takeOrder_of_eq hs (orderDropHold_other (by rw [held]; exact fun e => other_ne p (Option.some.inj e)))
  · refine live_takeOrder_of_eq hs ?_
    rw [orderDropHold_own own, loseHold_idle idle]; rfl
  · have lost := lossOfHold_loseHold running
    refine ⟨_, live_takeOrder_of_eq hs (orderDropHold_own own), ?_, ?_⟩
    · obtain ⟨hold, timer, rest⟩ := lost
      refine ⟨hold, ?_, rest⟩
      simp only [State.answered, hold, timer]
      rfl
    · simp [State.answered, ResultCode.code]
  case lapse =>
    refine (live_not_held _ awake).trans (congrArg _ ?_)
    rw [holdLapse_due own due, loseHold_idle (by exact idle)]; rfl
  case loss =>
    refine ⟨_, (live_not_held _ awake).trans (congrArg _ (holdLapse_due own due)), ?_, ?_, ?_⟩
    · exact lossOfHold_loseHold (s := s.raise p .holdLapsed) running
    · rw [loseHold_running (by exact running)]
      exact Ex.raisedBoth_keepsPending .calFailed (by
        simp only [State.raise, PerPort.get_set_same]
        exact Notice.getLsbD_or_mask .holdLapsed (s.ex.pending.get p))
    · rw [loseHold_running (by exact running)]; rfl
  case early =>
    show live s State.holdLapse = _
    unfold live
    rw [holdLapse_early early, ite_self]

end

end Sys2Proof.Machine
end

section
/-! The calibration orders and WRITE_TABLE (R81, R82, R86, R89, R91, R94). -/

namespace Sys2Proof.Machine

open Sys2Proof

section

variable {p : Port} {s t : State}

/-! ### The hold check (R81) -/

theorem holdRefusal_free (free : s.ex.hold = none) : s.holdRefusal p = some .notHolder := by
  unfold State.holdRefusal; rw [free]

theorem holdRefusal_other (held : s.ex.hold = some (other p)) : s.holdRefusal p = some .held := by
  unfold State.holdRefusal; rw [held]; exact if_neg (other_ne p)

theorem holdRefusal_own (own : s.ex.hold = some p) : s.holdRefusal p = none := by
  unfold State.holdRefusal; rw [own]; exact if_pos rfl

/-- The orders that need the hold. -/
theorem refused_of_holdRefusal {r : ResultCode} (h : s.holdRefusal p = some r) (mref : BitVec 16) (w : TableWire) :
    orderCalTare p s = Answer.refuse s r ∧ orderCalLoaded p mref s = Answer.refuse s r ∧ orderCalAbort p s = Answer.refuse s r
      ∧ orderWriteTable p w s = Answer.refuse s r := by
  unfold orderCalTare orderCalLoaded orderCalAbort orderWriteTable
  rw [h]
  exact ⟨rfl, rfl, rfl, rfl⟩

/-! ### CAL_TARE, CAL_LOADED, CAL_ZERO and CAL_ABORT -/

theorem orderCalTare_own (own : s.ex.hold = some p) :
    orderCalTare p s =
      if s.cu.cal ≠ .idle ∧ s.cu.cal ≠ .loadedWait then Answer.refuse s .state
      else if s.lt.held.isSome then Answer.refuse s .heldPass
      else Answer.done (State.queueAdvisory .calLiftEmpty { s.calIdle with cu.cal := .tareArmed }) := by
  unfold orderCalTare; rw [holdRefusal_own own]

theorem orderCalLoaded_own (own : s.ex.hold = some p) (mref : BitVec 16) :
    orderCalLoaded p mref s =
      if ¬(100 ≤ mref.toNat ∧ mref.toNat ≤ 60000) then Answer.badParam s 0
      else if s.cu.cal ≠ .loadedWait then Answer.refuse s .state
      else Answer.done { s with cu.cal := .loadedArmed, cu.scratchMref := some mref.toNat } := by
  unfold orderCalLoaded
  rw [holdRefusal_own own]
  simp only [Bool.not_eq_true', ← Bool.not_eq_true, natInRange_iff]

theorem orderCalZero_other (held : s.ex.hold = some (other p)) : orderCalZero p s = Answer.refuse s .held :=
  if_pos (heldByOther_iff.2 held)

theorem orderCalZero_free (free : s.ex.hold ≠ some (other p)) :
    orderCalZero p s =
      if s.cu.cal ≠ .idle ∨ s.cu.table ≠ .valid then Answer.refuse s .state
      else if s.lt.held.isSome then Answer.refuse s .heldPass
      else Answer.done (State.queueAdvisory .calLiftEmpty
        { (if s.ex.hold.isNone then s.giveHold p else s) with cu.cal := .zeroArmed }) :=
  if_neg (mt heldByOther_iff.1 free)

theorem orderCalAbort_own (own : s.ex.hold = some p) : orderCalAbort p s = Answer.done (s.abandonCal .aborted) := by
  unfold orderCalAbort; rw [holdRefusal_own own]

/-- A hold that is not the other port's is FREE or `p`'s. -/
theorem hold_cases (free : s.ex.hold ≠ some (other p)) : s.ex.hold = none ∨ s.ex.hold = some p := by
  cases hold : s.ex.hold with
  | none => exact .inl rfl
  | some q =>
    refine .inr ?_
    cases p <;> cases q
    · rfl
    · exact absurd hold free
    · exact absurd hold free
    · rfl

/-- The zero lift armed, once it is answered: the port holds the hold, its timer started (R89, R155, R157). -/
theorem answered_zeroArmed (free : s.ex.hold ≠ some (other p)) (r : ResultCode) (b : List Byte) :
    State.answered p r b (State.queueAdvisory .calLiftEmpty
        { (if s.ex.hold.isNone then s.giveHold p else s) with cu.cal := .zeroArmed }) =
      State.answered p r b (State.queueAdvisory .calLiftEmpty { s with cu.cal := .zeroArmed, ex.hold := some p }) := by
  simp only [State.queueAdvisory_eq]
  rcases hold_cases free with hold | hold
  · rw [if_pos (by rw [hold]; rfl)]
    simp [State.answered, State.giveHold]
  · rw [if_neg (by rw [hold]; nofun)]
    simp only [← hold]

/-! ### WRITE_TABLE (R94) -/

theorem forcePasses_iff (x : Int) : forcePasses x = true ↔ x ≤ 180000000 ∧ -179910000 ≤ x := by
  rw [forcePasses, inRange_iff, and_comm]

/-- The 17 field checks of a table, in order. -/
def tableChecks (w : TableWire) : List Bool :=
  natInRange 100 60000 w.mref.toNat
    :: (eightIndices.map (fun b => forcePasses (w.tare.get b).toInt)
      ++ eightIndices.map (fun b => forcePasses (w.loaded.get b).toInt
        && decide (minSpan ≤ (w.loaded.get b).toInt - (w.tare.get b).toInt)))

/-- Of checks that pass exactly where `ok` holds, the first that fails is named. -/
theorem firstFailing_eq_some {n : Nat} {checks : List Bool} {ok : Fin n → Prop} (len : checks.length = n)
    (passes : ∀ i : Fin n, checks.getD i.val false = true ↔ ok i) {i : Fin n} (bad : ¬ok i) (before : ∀ j, j < i → ok j) :
    firstFailing checks = some i.val := by
  have at_ : ∀ (j : Nat) (h : j < checks.length), checks[j] = checks.getD j false := fun j h => by
    rw [List.getD_eq_getElem _ _ h]
  rw [firstFailing, List.findIdx?_eq_some_iff_getElem]
  refine ⟨len ▸ i.isLt, ?_, fun j below => ?_⟩
  · rw [at_]
    simpa using mt (passes i).1 bad
  · rw [at_, (passes ⟨j, lt_trans below i.isLt⟩).2 (before _ below)]
    decide

theorem firstFailing_eq_none_of {n : Nat} {checks : List Bool} {ok : Fin n → Prop} (len : checks.length = n)
    (passes : ∀ i : Fin n, checks.getD i.val false = true ↔ ok i) (all : ∀ i, ok i) : firstFailing checks = none := by
  rw [firstFailing_eq_none]
  intro c hc
  obtain ⟨j, h, rfl⟩ := List.getElem_of_mem hc
  rw [← List.getD_eq_getElem _ false h]
  exact (passes ⟨j, len ▸ h⟩).2 (all _)

/-- What field `i` of a table has to meet: MREF, T_b, L_b with its span (R94). -/
def tableFieldOk (w : TableWire) (i : Fin 17) : Prop :=
  if i.val = 0 then 100 ≤ w.mref.toNat ∧ w.mref.toNat ≤ 60000
  else if i.val < 9 then
    (w.tare.get ⟨(i.val - 1) % 8, Nat.mod_lt _ (by decide)⟩).toInt ≤ 180000000
      ∧ -179910000 ≤ (w.tare.get ⟨(i.val - 1) % 8, Nat.mod_lt _ (by decide)⟩).toInt
  else
    (w.loaded.get ⟨(i.val - 1) % 8, Nat.mod_lt _ (by decide)⟩).toInt ≤ 180000000
      ∧ -179910000 ≤ (w.loaded.get ⟨(i.val - 1) % 8, Nat.mod_lt _ (by decide)⟩).toInt
      ∧ 10000 ≤ (w.loaded.get ⟨(i.val - 1) % 8, Nat.mod_lt _ (by decide)⟩).toInt
        - (w.tare.get ⟨(i.val - 1) % 8, Nat.mod_lt _ (by decide)⟩).toInt

theorem tableChecks_getD_iff (w : TableWire) (i : Fin 17) : (tableChecks w).getD i.val false = true ↔ tableFieldOk w i := by
  have tare : ∀ b, forcePasses (w.tare.get b).toInt = true ↔
      (w.tare.get b).toInt ≤ 180000000 ∧ -179910000 ≤ (w.tare.get b).toInt := fun b => forcePasses_iff _
  have loaded : ∀ b, (forcePasses (w.loaded.get b).toInt
      && decide (minSpan ≤ (w.loaded.get b).toInt - (w.tare.get b).toInt)) = true ↔
      (w.loaded.get b).toInt ≤ 180000000 ∧ -179910000 ≤ (w.loaded.get b).toInt
        ∧ 10000 ≤ (w.loaded.get b).toInt - (w.tare.get b).toInt := fun b => by
    rw [Bool.and_eq_true, forcePasses_iff, decide_eq_true_eq, and_assoc]; rfl
  fin_cases i
  · exact natInRange_iff
  · exact tare 0
  · exact tare 1
  · exact tare 2
  · exact tare 3
  · exact tare 4
  · exact tare 5
  · exact tare 6
  · exact tare 7
  · exact loaded 0
  · exact loaded 1
  · exact loaded 2
  · exact loaded 3
  · exact loaded 4
  · exact loaded 5
  · exact loaded 6
  · exact loaded 7

theorem orderWriteTable_bad {w : TableWire} {i : Nat} (own : s.ex.hold = some p) (bad : tableFirstBad w = some i) :
    orderWriteTable p w s = Answer.badParam s i := by
  unfold orderWriteTable; rw [holdRefusal_own own, bad]

theorem orderWriteTable_good {w : TableWire} (own : s.ex.hold = some p) (good : tableFirstBad w = none) :
    orderWriteTable p w s =
      if s.cu.cal ≠ .idle then Answer.refuse s .state
      else Answer.done { s with
        cu.mref := some w.mref.toNat
        cu.tare := Eight.tabulate fun b => (w.tare.get b).toInt
        cu.loaded := Eight.tabulate fun b => (w.loaded.get b).toInt
        cu.table := .valid
        cu.origin := some .written } := by
  unfold orderWriteTable; rw [holdRefusal_own own, good]

end

/-- Settles O52: the checks of each order in turn, and its effect. -/
theorem calibrationOrders : Obligations.CalibrationOrders := by
  unfold Obligations.CalibrationOrders
  intro p mref w s hs
  dsimp only
  have passNone : ∀ {o : Option Pass}, o ≠ none → o.isSome = true := fun h => Option.isSome_iff_ne_none.2 h
  refine ⟨?holds, fun own notIdle notWait => ?_, fun own ready pass => ?_, fun own ready none => ?_, fun own bad => ?_,
    fun own good notWait => ?_, fun own good wait => ?_, fun held => ?_, fun free why => ?_, fun free idle valid pass => ?_,
    fun free idle valid none => ?_, fun own idle => ?_, fun own running => ?abort, fun i own bad before => ?_,
    fun own good running => ?_, fun own good idle => ?table⟩
  case holds =>
    rintro c (rfl | rfl | rfl | rfl) <;> refine ⟨fun free => ?_, fun held => ?_⟩
    · exact live_takeOrder_of_eq hs (refused_of_holdRefusal (holdRefusal_free free) mref w).1
    · exact live_takeOrder_of_eq hs (refused_of_holdRefusal (holdRefusal_other held) mref w).1
    · exact live_takeOrder_of_eq hs (refused_of_holdRefusal (holdRefusal_free free) mref w).2.1
    · exact live_takeOrder_of_eq hs (refused_of_holdRefusal (holdRefusal_other held) mref w).2.1
    · exact live_takeOrder_of_eq hs (refused_of_holdRefusal (holdRefusal_free free) mref w).2.2.1
    · exact live_takeOrder_of_eq hs (refused_of_holdRefusal (holdRefusal_other held) mref w).2.2.1
    · exact live_takeOrder_of_eq hs (refused_of_holdRefusal (holdRefusal_free free) mref w).2.2.2
    · exact live_takeOrder_of_eq hs (refused_of_holdRefusal (holdRefusal_other held) mref w).2.2.2
  · exact live_takeOrder_of_eq hs ((orderCalTare_own own).trans (if_pos ⟨notIdle, notWait⟩))
  · refine live_takeOrder_of_eq hs ((orderCalTare_own own).trans ?_)
    rw [if_neg (by tauto), if_pos (passNone pass)]; rfl
  · refine live_takeOrder_of_eq hs ((orderCalTare_own own).trans ?_)
    rw [if_neg (by tauto), if_neg (by simp [none])]; rfl
  · exact live_takeOrder_of_eq hs ((orderCalLoaded_own own mref).trans (if_pos bad))
  · refine live_takeOrder_of_eq hs ((orderCalLoaded_own own mref).trans ?_)
    rw [if_neg (not_not.2 good), if_pos notWait]; rfl
  · refine live_takeOrder_of_eq hs ((orderCalLoaded_own own mref).trans ?_)
    rw [if_neg (not_not.2 good), if_neg (not_not.2 wait)]; rfl
  · exact live_takeOrder_of_eq hs (orderCalZero_other held)
  · exact live_takeOrder_of_eq hs ((orderCalZero_free free).trans (if_pos why))
  · refine live_takeOrder_of_eq hs ((orderCalZero_free free).trans ?_)
    rw [if_neg (by tauto), if_pos (passNone pass)]; rfl
  · have armed := orderCalZero_free free
    rw [if_neg (by tauto), if_neg (by simp [none])] at armed
    exact (live_takeOrder_of_eq hs armed).trans (congrArg _ (answered_zeroArmed free _ _))
  · refine live_takeOrder_of_eq hs ?_
    rw [orderCalAbort_own own, State.abandonCal_idle idle]; rfl
  case abort =>
    have aborted := orderCalAbort_own own
    rw [State.abandonCal_running running] at aborted
    exact ⟨_, live_takeOrder_of_eq hs aborted, rfl, Ex.raisedBoth_isPending .calFailed _, rfl,
      State.restKept.answered (by exact ⟨rfl, rfl, rfl, rfl, rfl, rfl, rfl⟩) (by exact rfl) _ _, rfl, rfl, rfl, rfl⟩
  · exact live_takeOrder_of_eq hs (orderWriteTable_bad own (firstFailing_eq_some (checks := tableChecks w) rfl (tableChecks_getD_iff w)
      bad before))
  · have passes : tableFirstBad w = none :=
      firstFailing_eq_none_of (checks := tableChecks w) rfl (tableChecks_getD_iff w) good
    exact live_takeOrder_of_eq hs ((orderWriteTable_good own passes).trans (if_pos running))
  case table =>
    have passes : tableFirstBad w = none :=
      firstFailing_eq_none_of (checks := tableChecks w) rfl (tableChecks_getD_iff w) good
    have written := (orderWriteTable_good own passes).trans (if_neg (not_not.2 idle))
    refine ⟨_, live_takeOrder_of_eq hs written, rfl, rfl, rfl, fun b => ⟨Eight.get_tabulate _ _, Eight.get_tabulate _ _⟩, idle, rfl, rfl,
      rfl, rfl, rfl, rfl, State.restKept.answered (by exact ⟨rfl, rfl, rfl, rfl, rfl, rfl, rfl⟩) (by exact rfl) _ _, rfl, ?_⟩
    simp [State.answered, ResultCode.code]

end Sys2Proof.Machine
end

section
/-! The orders of Table 11-3 do not look at the state of the unit count and of the frame at their own port: whatever a port holds of the
order that is being taken, the order has one effect (R171). -/

namespace Sys2Proof.Machine

open Sys2Proof

/-- The state with the ports `v` and the waiting commands `q`. -/
def State.onPorts (v : PerPort Lp) (q : List Instr) (s : State) : State := { s with ports := v, pending := q }

/-- `f` neither looks at the ports or at the waiting commands nor writes them. -/
def Portless (f : State → State) : Prop := ∀ s v q, f (s.onPorts v q) = (f s).onPorts v q

/-- The order's effect, result and reply depend neither on the ports nor on the waiting commands, and it leaves both. -/
def PortlessOrder (order : State → Answer) : Prop :=
  ∀ s v q, order (s.onPorts v q) = ⟨(order s).state.onPorts v q, (order s).result, (order s).reply⟩

section

variable {f g : State → State} {a b : State → Answer} {c : State → Prop} [DecidablePred c]

theorem Portless.comp (hf : Portless f) (hg : Portless g) : Portless fun s => g (f s) := fun s v q => by
  dsimp only
  rw [hf, hg]

theorem Portless.ite (hc : ∀ s v q, c (State.onPorts v q s) ↔ c s) (hf : Portless f) (hg : Portless g) :
    Portless fun s => if c s then f s else g s := fun s v q => by
  dsimp only
  by_cases h : c s
  · rw [if_pos ((hc s v q).2 h), if_pos h, hf]
  · rw [if_neg (mt (hc s v q).1 h), if_neg h, hg]

theorem PortlessOrder.ite (hc : ∀ s v q, c (State.onPorts v q s) ↔ c s) (ha : PortlessOrder a) (hb : PortlessOrder b) :
    PortlessOrder fun s => if c s then a s else b s := fun s v q => by
  dsimp only
  by_cases h : c s
  · rw [if_pos ((hc s v q).2 h), if_pos h, ha]
  · rw [if_neg (mt (hc s v q).1 h), if_neg h, hb]

theorem PortlessOrder.refuse (r : ResultCode) : PortlessOrder fun s => Answer.refuse s r := fun _ _ _ => rfl

theorem PortlessOrder.badParam (i : Nat) : PortlessOrder fun s => Answer.badParam s i := fun _ _ _ => rfl

theorem PortlessOrder.done (hf : Portless f) : PortlessOrder fun s => Answer.done (f s) := fun s v q => by
  dsimp only
  rw [hf]; rfl

theorem PortlessOrder.answer (hf : Portless f) (r : ResultCode) (reply : State → List Byte)
    (same : ∀ s v q, reply (State.onPorts v q s) = reply s) : PortlessOrder fun s => ⟨f s, r, reply (f s)⟩ := fun s v q => by
  dsimp only
  rw [hf, same]

end

/-! ### The operations -/

theorem portless_id : Portless fun s => s := fun _ _ _ => rfl

theorem portless_queueAdvisory (x : Advisory) : Portless (State.queueAdvisory x) := fun s v q => by
  simp only [State.queueAdvisory_eq]; rfl

theorem portless_endTrace : Portless State.endTrace := fun s v q => by
  simp only [State.endTrace_eq]; rfl

theorem portless_abandonCal (c : CalCause) : Portless (State.abandonCal c) := by
  refine Portless.ite (fun _ _ _ => Iff.rfl) portless_id fun s v q => ?_
  simp only [State.calFail_eq]; rfl

theorem portless_geometryChange : Portless State.geometryChange := fun s v q => by
  rw [State.geometryChange_eq, State.geometryChange_eq, ← portless_abandonCal]; rfl

theorem portless_applyWeigh (r : WeighRec) : Portless (State.applyWeigh r) :=
  Portless.ite (c := fun s => s.we.weigh.sameGeometry r = true) (fun _ _ _ => Iff.rfl)
    (f := fun s => { s with we.weigh := r, we.pendingWeigh := none }) (fun _ _ _ => rfl)
    (Portless.comp (f := fun s => { s with we.weigh := r, we.pendingWeigh := none }) (fun _ _ _ => rfl) portless_geometryChange)

theorem portless_applyPendingWeigh : Portless State.applyPendingWeigh := fun s v q => by
  rw [State.applyPendingWeigh_eq, State.applyPendingWeigh_eq]; exact portless_applyWeigh _ s v q

theorem portless_abortWeigh (c : AbortCause) : Portless (State.abortWeigh c) := fun s v q => by
  simp only [State.abortWeigh_eq]; rfl

theorem portless_abortIfWeighing (c : AbortCause) : Portless (State.abortIfWeighing c) :=
  Portless.ite (fun _ _ _ => Iff.rfl) (Portless.comp (portless_abortWeigh c) portless_endTrace) portless_id

theorem portless_closeLoad (c : CloseCause) : Portless (State.closeLoad c) := fun s v q => by
  simp only [State.closeLoad_eq]; rfl

theorem portless_announceLoad (old : LoadState) : Portless (State.announceLoad old) :=
  Portless.ite (fun _ _ _ => Iff.rfl) portless_id fun s v q => by
    dsimp only [State.onPorts]
    split
    · rw [State.queueAdvisory_eq, State.queueAdvisory_eq]; rfl
    · rw [State.queueAdvisory_eq, State.queueAdvisory_eq]; rfl
    · rfl

theorem portless_loseHold : Portless State.loseHold :=
  Portless.comp (f := fun s => { s with ex.hold := none, ex.holdTimer := .stopped }) (fun _ _ _ => rfl) (portless_abandonCal _)

/-! ### The line functions (R22, R33, R44) -/

theorem portless_parkChange (level : Bool) : Portless (State.parkChange level) :=
  Portless.ite (c := fun s => level = true ∧ (s.ct.tracker.inCycle = true ∨ s.ct.tracker = .sensorWait)) (fun _ _ _ => Iff.rfl)
    (Portless.comp (f := fun s => State.abortIfWeighing .park { s with ct.park := level })
      (g := fun s => { s with ct := { s.ct.standDown with tracker := .parked } })
      (Portless.comp (f := fun s => { s with ct.park := level }) (fun _ _ _ => rfl) (portless_abortIfWeighing _)) fun _ _ _ => rfl)
    fun _ _ _ => rfl

theorem portless_dumpSwitchChange (level configured : Bool) : Portless (State.dumpSwitchChange level configured) := fun s v q => by
  unfold State.dumpSwitchChange State.judgeDumping State.onPorts
  dsimp only
  split
  · split
    · rfl
    · rfl
    · split <;> rfl
    · rfl
  · rfl

/-- The changes of the level functions from `old` to `now`, each handed to its receiver (R22). -/
def State.handedFrom (old now : FnLevels) (s : State) : State :=
  let s2 := if now.park = old.park then { s with lm.levels := now } else State.parkChange now.park { s with lm.levels := now }
  let s3 := if now.dumpSwitch = old.dumpSwitch ∧ now.dumpConfigured = old.dumpConfigured then s2
    else s2.dumpSwitchChange now.dumpSwitch now.dumpConfigured
  if now.lights = old.lights then s3 else { s3 with sd.lights := now.lights }

theorem handLevels_eq_handedFrom (s : State) : s.handLevels = s.handedFrom s.lm.levels s.lm.computedLevels := rfl

theorem portless_handedFrom (old now : FnLevels) : Portless (State.handedFrom old now) := by
  have park : Portless fun s => if now.park = old.park then { s with lm.levels := now }
      else State.parkChange now.park { s with lm.levels := now } :=
    Portless.ite (c := fun _ => now.park = old.park) (fun _ _ _ => Iff.rfl) (fun _ _ _ => rfl)
      (Portless.comp (f := fun s => { s with lm.levels := now }) (fun _ _ _ => rfl) (portless_parkChange _))
  have dump : Portless fun s => if now.dumpSwitch = old.dumpSwitch ∧ now.dumpConfigured = old.dumpConfigured then s
      else s.dumpSwitchChange now.dumpSwitch now.dumpConfigured :=
    Portless.ite (c := fun _ => now.dumpSwitch = old.dumpSwitch ∧ now.dumpConfigured = old.dumpConfigured) (fun _ _ _ => Iff.rfl)
      portless_id (portless_dumpSwitchChange _ _)
  have lights : Portless fun s => if now.lights = old.lights then s else { s with sd.lights := now.lights } :=
    Portless.ite (c := fun _ => now.lights = old.lights) (fun _ _ _ => Iff.rfl) portless_id fun _ _ _ => rfl
  exact Portless.comp (g := fun s => if now.lights = old.lights then s else { s with sd.lights := now.lights })
    (Portless.comp (g := fun s => if now.dumpSwitch = old.dumpSwitch ∧ now.dumpConfigured = old.dumpConfigured then s
      else s.dumpSwitchChange now.dumpSwitch now.dumpConfigured) park dump) lights

theorem portless_handLevels : Portless State.handLevels := fun s v q =>
  portless_handedFrom s.lm.levels s.lm.computedLevels s v q

theorem portless_evaluateWatch (before after : BitVec 8) (p : Port) : Portless (State.evaluateWatch before after p) :=
  Portless.ite (c := fun s => (s.lm.watch.get p).fires before after = true) (fun _ _ _ => Iff.rfl) (fun _ _ _ => rfl) fun _ _ _ => rfl

theorem portless_evaluateWatches (before after : BitVec 8) : Portless (State.evaluateWatches before after) :=
  Portless.comp (f := State.evaluateWatch before after .a) (portless_evaluateWatch before after .a) (portless_evaluateWatch before after .b)

/-! ### The orders -/

theorem portless_samplingRun : Portless State.samplingRun := fun s v q => by
  unfold State.samplingRun State.onPorts
  dsimp only
  split <;> rfl

theorem portless_samplingStop : Portless State.samplingStop := fun s v q => by
  unfold State.samplingStop State.onPorts
  dsimp only
  split <;> rfl

theorem portless_trackerRun : Portless State.trackerRun := Portless.ite (fun _ _ _ => Iff.rfl) (fun _ _ _ => rfl) portless_id

theorem portless_trackerStop : Portless State.trackerStop :=
  Portless.ite (fun _ _ _ => Iff.rfl) portless_id
    (Portless.comp (f := State.abortIfWeighing .stopped)
      (g := fun s => { s with ct := { s.ct.standDown with tracker := .stopped, cycleRef := .stopped } })
      (portless_abortIfWeighing _) fun _ _ _ => rfl)

theorem portless_run : PortlessOrder orderRun := .done (portless_samplingRun.comp portless_trackerRun)

theorem portless_stop : PortlessOrder orderStop := .done (portless_trackerStop.comp portless_samplingStop)

theorem portless_setTarget (p : Port) (w : TargetWire) : PortlessOrder (orderSetTarget p w) := by
  unfold orderSetTarget
  cases targetFirstBad w with
  | some i => exact .badParam i
  | none =>
    exact .answer (f := State.retargeted p w)
      (fun s v q => Portless.comp (f := fun s => State.recomputeLoad { s with lt.load := s.lt.load.withTarget p w }) (fun _ _ _ => rfl)
        (portless_announceLoad s.lt.load.state) s v q) .ok
      (fun u => u16 u.lt.load.number ++ [u.lt.load.state.code]) fun _ _ _ => rfl

theorem portless_setNext (p : Port) (n : Byte) (w : TargetWire) : PortlessOrder (orderSetNext p n w) := by
  unfold orderSetNext
  refine .ite (fun _ _ _ => Iff.rfl) (fun _ _ _ => rfl) ?_
  cases targetFirstBad w with
  | some i => exact .badParam i
  | none => exact fun _ _ _ => rfl

theorem portless_orderCloseLoad : PortlessOrder orderCloseLoad :=
  .ite (fun _ _ _ => Iff.rfl) (.refuse _) fun s v q => by
    rw [portless_closeLoad]; rfl

theorem portless_collectLoad : PortlessOrder orderCollectLoad := fun s v q => by
  unfold orderCollectLoad State.onPorts
  dsimp only
  split <;> rfl

theorem portless_releaseLoad (n : BitVec 16) : PortlessOrder (orderReleaseLoad n) := by
  unfold orderReleaseLoad
  refine .ite (fun _ _ _ => Iff.rfl) (.badParam 0) fun s v q => ?_
  dsimp only [State.onPorts]
  split
  · rfl
  · split
    · rfl
    · split <;> rfl

theorem portless_shiftClose : Portless State.shiftClose :=
  Portless.ite (fun _ _ _ => Iff.rfl) portless_id (portless_closeLoad _)

theorem portless_shiftEnd : PortlessOrder orderShiftEnd := fun s v q => by
  unfold orderShiftEnd
  dsimp only
  rw [portless_shiftClose]; rfl

theorem portless_writeSample (r : Byte) : PortlessOrder (orderWriteSample r) := by
  unfold orderWriteSample
  cases paceRateOf r with
  | none => exact .badParam 0
  | some x => exact fun _ _ _ => rfl

theorem portless_writeWeigh (p : Port) (w : WeighWire) : PortlessOrder (orderWriteWeigh p w) :=
  .ite (fun _ _ _ => Iff.rfl) (.refuse _) fun s v q => by
    dsimp only [State.onPorts]
    cases weighFirstBad (weighOfWire w) (s.ct.cycle :: s.ct.pendingCycle.toList) with
    | some i => rfl
    | none =>
      exact PortlessOrder.done (Portless.ite (c := fun s => s.ct.tracker.appliesAtOnce = true) (fun _ _ _ => Iff.rfl)
        (portless_applyWeigh _)
        (g := fun s => { s with we.pendingWeigh := some (weighOfWire w) }) fun _ _ _ => rfl) s v q

theorem portless_writeCycle (p : Port) (w : CycleWire) : PortlessOrder (orderWriteCycle p w) :=
  .ite (fun _ _ _ => Iff.rfl) (.refuse _) fun s v q => by
    dsimp only [State.onPorts]
    cases cycleFirstBad (cycleOfWire w) (s.we.pendingWeigh.getD s.we.weigh) with
    | some i => rfl
    | none =>
      exact PortlessOrder.done (Portless.ite (c := fun s => s.ct.tracker.appliesAtOnce = true) (fun _ _ _ => Iff.rfl)
        (Portless.comp (f := fun s => { s with ct.cycle := cycleOfWire w, ct.pendingCycle := none }) (fun _ _ _ => rfl)
          portless_applyPendingWeigh)
        (g := fun s => { s with ct.pendingCycle := some (cycleOfWire w) }) fun _ _ _ => rfl) s v q

theorem portless_writeLoad (w : LoadWire) : PortlessOrder (orderWriteLoad w) := by
  unfold orderWriteLoad
  cases loadFirstBad w with
  | some i => exact .badParam i
  | none => exact fun _ _ _ => rfl

theorem portless_applyLines (r : LinesRec) : Portless (State.applyLines r) := fun s v q => by
  have handed : Portless fun s => State.handLevels { s with lm.settings := r } :=
    Portless.comp (f := fun s => { s with lm.settings := r }) (fun _ _ _ => rfl) portless_handLevels
  exact Portless.ite (c := fun _ => s.lm.active = Lm.active { s.lm with settings := r }) (fun _ _ _ => Iff.rfl) handed
    (Portless.comp handed (portless_evaluateWatches s.lm.active (Lm.active { s.lm with settings := r }))) s v q

theorem portless_writeLines (w : LinesWire) : PortlessOrder (orderWriteLines w) := by
  unfold orderWriteLines
  cases linesFirstBad w with
  | some i => exact .badParam i
  | none => exact .done (portless_applyLines _)

theorem portless_writeStrip (w : StripWire) : PortlessOrder (orderWriteStrip w) := by
  unfold orderWriteStrip
  cases stripFirstBad w with
  | some i => exact .badParam i
  | none => exact fun _ _ _ => rfl

theorem portless_readSettings (g : Byte) : PortlessOrder (orderReadSettings g) := fun s v q => by
  unfold orderReadSettings
  split <;> rfl

theorem portless_writeSettings (p : Port) (ps : List Byte) : PortlessOrder (orderWriteSettings p ps) := fun s v q => by
  unfold orderWriteSettings
  split
  · exact portless_writeSample _ s v q
  · exact portless_writeWeigh p _ s v q
  · exact portless_writeCycle p _ s v q
  · exact portless_writeLoad _ s v q
  · exact portless_writeLines _ s v q
  · exact portless_writeStrip _ s v q
  · rfl

theorem portless_readMaterial (i : Byte) : PortlessOrder (orderReadMaterial i) :=
  .ite (fun _ _ _ => Iff.rfl) (fun _ _ _ => rfl) (.badParam 0)

theorem portless_writeMaterial (w : MaterialWire) : PortlessOrder (orderWriteMaterial w) := by
  unfold orderWriteMaterial
  cases materialFirstBad w with
  | some i => exact .badParam i
  | none => exact fun _ _ _ => rfl

theorem portless_takeHold (p : Port) : PortlessOrder (orderTakeHold p) := fun s v q => by
  unfold orderTakeHold State.onPorts
  dsimp only
  split
  · rfl
  · split <;> rfl

theorem portless_dropHold (p : Port) : PortlessOrder (orderDropHold p) :=
  .ite (fun _ _ _ => Iff.rfl) (.done portless_loseHold) (.refuse _)

/-- An order that needs the hold (R81). -/
theorem portless_needsHold (p : Port) {order : State → Answer} {body : State → Answer} (h : PortlessOrder body)
    (refused : ∀ s r, s.holdRefusal p = some r → order s = Answer.refuse s r)
    (passed : ∀ s, s.holdRefusal p = none → order s = body s) : PortlessOrder order := fun s v q => by
  have same : (s.onPorts v q).holdRefusal p = s.holdRefusal p := rfl
  cases refusal : s.holdRefusal p with
  | none => rw [passed s refusal, passed (s.onPorts v q) (same.trans refusal), h]
  | some r => rw [refused s r refusal, refused (s.onPorts v q) r (same.trans refusal)]; rfl

theorem portless_calTare (p : Port) : PortlessOrder (orderCalTare p) :=
  portless_needsHold p
    (.ite (c := fun s => s.cu.cal ≠ .idle ∧ s.cu.cal ≠ .loadedWait) (fun _ _ _ => Iff.rfl) (.refuse .state)
      (.ite (c := fun s => s.lt.held.isSome = true) (fun _ _ _ => Iff.rfl) (.refuse .heldPass)
        (.done (Portless.comp (f := fun s => { s.calIdle with cu.cal := .tareArmed }) (fun _ _ _ => rfl)
          (portless_queueAdvisory .calLiftEmpty)))))
    (fun s r h => by unfold orderCalTare; rw [h]) fun s h => by unfold orderCalTare; rw [h]

theorem portless_calLoaded (p : Port) (m : BitVec 16) : PortlessOrder (orderCalLoaded p m) :=
  portless_needsHold p
    (.ite (c := fun _ => (!natInRange 100 60000 m.toNat) = true) (fun _ _ _ => Iff.rfl) (.badParam 0)
      (.ite (c := fun s => s.cu.cal ≠ .loadedWait) (fun _ _ _ => Iff.rfl) (.refuse .state)
        (.done (f := fun s => { s with cu.cal := .loadedArmed, cu.scratchMref := some m.toNat }) fun _ _ _ => rfl)))
    (fun s r h => by unfold orderCalLoaded; rw [h]) fun s h => by unfold orderCalLoaded; rw [h]

theorem portless_calZero (p : Port) : PortlessOrder (orderCalZero p) :=
  .ite (fun _ _ _ => Iff.rfl) (.refuse _)
    (.ite (fun _ _ _ => Iff.rfl) (.refuse _)
      (.ite (fun _ _ _ => Iff.rfl) (.refuse _)
        (.done (Portless.comp (f := fun s => { (if s.ex.hold.isNone then s.giveHold p else s) with cu.cal := .zeroArmed })
          (fun s v q => by
            dsimp only [State.onPorts]
            split <;> rfl)
          (portless_queueAdvisory _)))))

theorem portless_calAbort (p : Port) : PortlessOrder (orderCalAbort p) :=
  portless_needsHold p (.done (portless_abandonCal .aborted)) (fun s r h => by unfold orderCalAbort; rw [h])
    fun s h => by unfold orderCalAbort; rw [h]

theorem portless_writeTable (p : Port) (w : TableWire) : PortlessOrder (orderWriteTable p w) := fun s v q => by
  unfold orderWriteTable
  have same : (s.onPorts v q).holdRefusal p = s.holdRefusal p := rfl
  rw [same]
  cases s.holdRefusal p with
  | some r => rfl
  | none =>
    cases tableFirstBad w with
    | some i => rfl
    | none =>
      by_cases running : s.cu.cal ≠ .idle
      · simp only [if_pos running, if_pos (show (s.onPorts v q).cu.cal ≠ .idle from running)]; rfl
      · simp only [if_neg running, if_neg (show ¬ (s.onPorts v q).cu.cal ≠ .idle from running)]; rfl

theorem portless_readMessage (p : Port) : PortlessOrder (orderReadMessage p) := fun s v q => by
  unfold orderReadMessage State.onPorts
  dsimp only
  split <;> rfl

theorem portless_setWatch (p : Port) (m c d : Byte) : PortlessOrder (orderSetWatch p m c d) := fun s v q => by
  unfold orderSetWatch State.onPorts
  dsimp only
  split <;> rfl

theorem portless_traceArm (p : Port) (m : Byte) : PortlessOrder (orderTraceArm p m) := by
  unfold orderTraceArm
  cases traceModeOf m with
  | none => exact .badParam 0
  | some x => exact .ite (fun _ _ _ => Iff.rfl) (.refuse _) (.ite (fun _ _ _ => Iff.rfl) (fun _ _ _ => rfl) fun _ _ _ => rfl)

theorem portless_traceRead (p : Port) (n : Byte) : PortlessOrder (orderTraceRead p n) :=
  .ite (fun _ _ _ => Iff.rfl) (.badParam 0)
    (.ite (fun _ _ _ => Iff.rfl) (.refuse _) (.ite (fun _ _ _ => Iff.rfl) (fun _ _ _ => rfl) fun _ _ _ => rfl))

theorem portless_openWindow (p : Port) (w : WindowWire) : PortlessOrder (orderOpenWindow p w) := by
  unfold orderOpenWindow
  cases windowFirstBad w with
  | some i => exact .badParam i
  | none => exact fun _ _ _ => rfl

theorem portless_putText (p : Port) (cs : List Byte) : PortlessOrder (orderPutText p cs) := fun s v q => by
  unfold orderPutText State.onPorts
  dsimp only
  split <;> rfl

theorem portless_setStrip (b : Byte) : PortlessOrder (orderSetStrip b) := by
  unfold orderSetStrip
  cases dimOverrideOf b with
  | none => exact .badParam 0
  | some d => exact fun _ _ _ => rfl

/-- The orders of Table 11-3, but for PORT_STATUS and LINK_RESET, which are about their port. -/
theorem portless_orderOf (p : Port) {code : Byte} (ps : List Byte) (noStatus : code.toNat ≠ 0x38) (noReset : code.toNat ≠ 0x3F) :
    PortlessOrder (orderOf p code ps) := fun s v q => by
  unfold orderOf
  split
  · exact portless_run s v q
  · exact portless_stop s v q
  · rfl
  · rfl
  · exact portless_setTarget p _ s v q
  · exact portless_setNext p _ _ s v q
  · exact portless_orderCloseLoad s v q
  · exact portless_collectLoad s v q
  · exact portless_releaseLoad _ s v q
  · rfl
  · exact portless_shiftEnd s v q
  · exact portless_readSettings _ s v q
  · exact portless_writeSettings p _ s v q
  · exact portless_readMaterial _ s v q
  · exact portless_writeMaterial _ s v q
  · exact portless_takeHold p s v q
  · exact portless_dropHold p s v q
  · exact portless_calTare p s v q
  · exact portless_calLoaded p _ s v q
  · exact portless_calZero p s v q
  · exact portless_calAbort p s v q
  · rfl
  · exact portless_writeTable p _ s v q
  · rfl
  · exact portless_readMessage p s v q
  · rfl
  · rfl
  · rfl
  · rfl
  · rfl
  · exact portless_setWatch p _ _ _ s v q
  · exact portless_traceArm p _ s v q
  · exact portless_traceRead p _ s v q
  · exact portless_openWindow p _ s v q
  · exact portless_putText p _ s v q
  · exact portless_setStrip _ s v q
  · contradiction
  · contradiction
  · rfl

end Sys2Proof.Machine
end

section
/-! Units clocked in bit by bit, and the units of an order one after another (R169 to R172). -/

namespace Sys2Proof.Machine

open Sys2Proof

theorem Portless.ports_eq {f : State → State} (h : Portless f) (s : State) : (f s).ports = s.ports := by
  have same : f s = (f s).onPorts s.ports s.pending := h s s.ports s.pending
  rw [same]; rfl

theorem Portless.pending_eq {f : State → State} (h : Portless f) (s : State) : (f s).pending = s.pending := by
  have same : f s = (f s).onPorts s.ports s.pending := h s s.ports s.pending
  rw [same]; rfl

/-- Two states of a port that differ at most in the unit and in the order in progress (Table 10-2). -/
def Lp.agrees (q r : Lp) : Prop :=
  q.selected = r.selected ∧ q.lastResult = r.lastResult ∧ q.strays = r.strays ∧ q.contentions = r.contentions

theorem PortlessOrder.ports_eq {order : State → Answer} (h : PortlessOrder order) (s : State) :
    (order s).state.ports = s.ports :=
  congrArg (fun a => a.state.ports) (h s s.ports s.pending)

theorem PortlessOrder.pending_eq {order : State → Answer} (h : PortlessOrder order) (s : State) :
    (order s).state.pending = s.pending :=
  congrArg (fun a => a.state.pending) (h s s.ports s.pending)

section

variable {p : Port} {s : State} {q : Lp} {b : Byte}

/-- The answer of an order overwrites all that the order in progress has left at the port. -/
theorem answered_onPorts (same : q.agrees (s.ports.get p)) (t : State) (ports : t.ports = s.ports) (waiting : t.pending = s.pending) (r : ResultCode)
    (reply : List Byte) : (t.onPorts (s.ports.set p q) s.pending).answered p r reply = t.answered p r reply := by
  obtain ⟨selected, -, strays, contentions⟩ := same
  unfold State.answered State.onPorts
  simp [PerPort.set_set, ports, waiting, selected, strays, contentions]

theorem take_portless {order : State → Answer} (h : PortlessOrder order) (same : q.agrees (s.ports.get p)) :
    (s.setPort p q).take p order = s.take p order := by
  rw [State.take_eq_answered, State.take_eq_answered, show s.setPort p q = s.onPorts (s.ports.set p q) s.pending from rfl, h]
  exact answered_onPorts same _ (h.ports_eq s) (h.pending_eq s) _ _

theorem portless_resetHold (p : Port) : Portless (State.resetHold p) :=
  Portless.ite (c := fun s => s.holds p = true) (fun _ _ _ => Iff.rfl) portless_loseHold portless_id

/-- LINK_RESET but for the state of its own port. -/
theorem relinked_agrees (same : q.agrees (s.ports.get p)) :
    ((State.resetHold p (s.setPort p { q with order := none, ended := false })).relinked p).answered p .ok []
      = ((State.resetHold p (s.setPort p { s.ports.get p with order := none, ended := false })).relinked p).answered p .ok [] := by
  obtain ⟨selected, -, strays, contentions⟩ := same
  have apart : ∀ r, State.resetHold p (s.setPort p r) = (s.resetHold p).onPorts (s.ports.set p r) s.pending :=
    fun r => portless_resetHold p s _ _
  rw [apart, apart]
  unfold State.relinked State.answered State.onPorts
  simp [PerPort.set_set, selected]

/-- The effect of an order, with its answer, does not depend on the unit and the order in progress at its port (R171). -/
theorem take_agrees (code : Byte) (ps : List Byte) (same : q.agrees (s.ports.get p)) :
    (s.setPort p q).take p (orderOf p code ps) = s.take p (orderOf p code ps) := by
  by_cases status : code.toNat = 0x38
  · obtain rfl : code = 0x38 := BitVec.eq_of_toNat_eq status
    have order : orderOf p 0x38 ps = orderPortStatus p := rfl
    obtain ⟨selected, result, strays, contentions⟩ := same
    rw [order, State.take_eq_answered, State.take_eq_answered]
    have reply : (orderPortStatus p (s.setPort p q)).reply = (orderPortStatus p s).reply := by
      simp [orderPortStatus, Answer.read, State.setPort, result, strays, contentions]
    rw [reply]
    exact answered_onPorts ⟨selected, result, strays, contentions⟩ s rfl rfl _ _
  by_cases reset : code.toNat = 0x3F
  · obtain rfl : code = 0x3F := BitVec.eq_of_toNat_eq reset
    have order : orderOf p 0x3F ps = orderLinkReset p := rfl
    rw [order, State.take_eq_answered, State.take_eq_answered, orderLinkReset_eq, orderLinkReset_eq]
    have own : (s.setPort p q).ports.get p = q := PerPort.get_set_same _ _ _
    have again : (s.setPort p q).setPort p { q with order := none, ended := false }
        = s.setPort p { q with order := none, ended := false } := by
      unfold State.setPort; simp [PerPort.set_set]
    rw [own, again]
    exact relinked_agrees same
  · exact take_portless (portless_orderOf p ps status reset) same

/-! ### A unit bit by bit (R169) -/

/-- Port `p` with the bits `bits` of a unit sampled. -/
def State.shifted (p : Port) (bits : List Bool) (s : State) : State := s.setPort p { s.ports.get p with shift := bits }

theorem shifted_port (bits : List Bool) : (s.shifted p bits).ports.get p = { s.ports.get p with shift := bits } :=
  PerPort.get_set_same _ _ _

theorem setPort_shifted (bits : List Bool) (q : Lp) : (s.shifted p bits).setPort p q = s.setPort p q := by
  unfold State.shifted State.setPort
  simp [PerPort.set_set]

theorem take_shifted (bits : List Bool) (code : Byte) (ps : List Byte) :
    (s.shifted p bits).take p (orderOf p code ps) = s.take p (orderOf p code ps) :=
  take_agrees code ps ⟨rfl, rfl, rfl, rfl⟩

theorem settle_shifted (bits : List Bool) (o : Pending) (r : ResultCode) (reply : List Byte) :
    (s.shifted p bits).settle p o r reply = s.settle p o r reply := by
  rw [settle_eq, settle_eq, shifted_port]
  unfold State.shifted State.setPort
  simp [PerPort.set_set]

theorem beginParams_shifted (bits : List Bool) (code : Byte) (due : Option Nat) :
    (s.shifted p bits).beginParams p code due = s.beginParams p code due := by
  unfold State.beginParams
  rw [setPort_shifted, shifted_port]

theorem keepParams_shifted (bits : List Bool) (o : Pending) : (s.shifted p bits).keepParams p o = s.keepParams p o := by
  unfold State.keepParams
  rw [setPort_shifted, shifted_port]

/-- An order unit does not see the bits it was sampled from. -/
theorem beginOrder_shifted (bits : List Bool) (frame : (s.ports.get p).frame = .expectOrder) :
    (s.shifted p bits).beginOrder p b = s.beginOrder p b := by
  have frame' : ((s.shifted p bits).ports.get p).frame = .expectOrder := by rw [shifted_port]; exact frame
  match calls : callsOf b with
  | none =>
    rw [beginOrder_unknown calls, beginOrder_unknown calls, answerBadOrder_expectOrder frame, answerBadOrder_expectOrder frame',
      shifted_port]
    unfold State.shifted State.setPort
    simp
  | some (.fixed 0) => rw [beginOrder_fixed_zero calls, beginOrder_fixed_zero calls, take_shifted]
  | some (.fixed (n + 1)) => rw [beginOrder_fixed calls, beginOrder_fixed calls, beginParams_shifted]
  | some .text => rw [beginOrder_text calls, beginOrder_text calls, beginParams_shifted]
  | some .deposit =>
    rw [beginOrder_deposit calls, beginOrder_deposit calls, settle_shifted]
    exact if_congr Iff.rfl rfl
      (beginParams_shifted (s := { s with ex.deposits := s.ex.deposits.set p (some 0) }) bits b none)

theorem portless_abandonDeposit (p : Port) (ps : List Byte) : Portless (State.abandonDeposit p ps) := fun s v q => by
  unfold State.abandonDeposit State.onPorts
  dsimp only
  split
  · rfl
  · split <;> rfl

theorem abandon_shifted (bits : List Bool) : (s.shifted p bits).abandon p = s.abandon p := by
  cases ended : (s.ports.get p).ended with
  | true =>
    rw [abandon_settled ended, abandon_settled (by rw [shifted_port]; exact ended), setPort_shifted, shifted_port]
  | false =>
    rw [abandon_open ended, abandon_open (by rw [shifted_port]; exact ended), shifted_port]
    show ((s.shifted p bits).abandonDeposit p (s.ports.get p).paramsTaken).setPort p _ = _
    rw [show (s.shifted p bits).abandonDeposit p (s.ports.get p).paramsTaken
      = (s.abandonDeposit p (s.ports.get p).paramsTaken).onPorts (s.ports.set p { s.ports.get p with shift := bits }) s.pending
      from portless_abandonDeposit _ _ _ _ _]
    unfold State.setPort State.onPorts
    simp [(portless_abandonDeposit p (s.ports.get p).paramsTaken).ports_eq s,
      (portless_abandonDeposit p (s.ports.get p).paramsTaken).pending_eq s]

theorem lengthUnit_shifted (bits : List Bool) (o : Pending) : (s.shifted p bits).lengthUnit p o b = s.lengthUnit p o b := by
  rcases Nat.lt_or_ge 64 b.toNat with long | short
  · rw [lengthUnit_long long, lengthUnit_long long]
    exact settle_shifted (s := { s with ex.deposits := s.ex.deposits.set p none }) bits _ _ _
  · rw [lengthUnit_short short, lengthUnit_short short, keepParams_shifted]

theorem countDeposit_shifted (bits : List Bool) (o : Pending) :
    (s.shifted p bits).countDeposit p o = (s.countDeposit p o).shifted p bits := by
  unfold State.countDeposit
  split <;> rfl

theorem parameter_shifted (bits : List Bool) (o : Pending) : (s.shifted p bits).parameter p o b = s.parameter p o b := by
  unfold State.parameter
  cases o.due with
  | none => exact lengthUnit_shifted bits o
  | some n =>
    dsimp only
    rw [take_shifted, countDeposit_shifted, keepParams_shifted]

theorem passOver_shifted (bits : List Bool) (o : Pending) : (s.shifted p bits).passOver p o b = s.passOver p o b := by
  unfold State.passOver
  cases o.due with
  | none => exact keepParams_shifted bits _
  | some n =>
    dsimp only
    rw [setPort_shifted, keepParams_shifted, shifted_port]

/-- The frame states in which a unit completes: EXPECT_ORDER, and PARAMS with its order (Table 10-3). -/
def Lp.takesUnits (q : Lp) : Prop := q.frame = .expectOrder ∨ q.frame = .params ∧ q.order.isSome = true

theorem kind0Unit_shifted (bits : List Bool) (frame : (s.ports.get p).takesUnits) :
    (s.shifted p bits).kind0Unit p b = s.kind0Unit p b := by
  rcases frame with frame | ⟨frame, -⟩
  · rw [kind0Unit_expectOrder frame, kind0Unit_expectOrder (by rw [shifted_port]; exact frame), beginOrder_shifted bits frame]
  · rw [kind0Unit_params frame, kind0Unit_params (by rw [shifted_port]; exact frame), abandon_shifted]

theorem kind1Unit_shifted (bits : List Bool) (frame : (s.ports.get p).takesUnits) :
    (s.shifted p bits).kind1Unit p b = s.kind1Unit p b := by
  rcases frame with frame | ⟨frame, order⟩
  · rw [kind1Unit_expectOrder frame, kind1Unit_expectOrder (by rw [shifted_port]; exact frame)]
    unfold State.strayUnit
    dsimp only
    rw [setPort_shifted, shifted_port]
  · obtain ⟨o, order⟩ := Option.isSome_iff_exists.1 order
    rw [kind1Unit_params frame order, kind1Unit_params (o := o) (by rw [shifted_port]; exact frame) (by rw [shifted_port]; exact order),
      passOver_shifted, parameter_shifted, shifted_port]

/-! ### Nine clocks (R169) -/

/-- A clock of a unit samples a bit; the ninth completes it. -/
theorem exec_clock_samples {bits : List Bool} {d : Bool} (awake : s.held = false) (selected : (s.ports.get p).selected = true)
    (frame : (s.ports.get p).takesUnits) :
    exec (.replyClock p d) (s.shifted p bits) =
      .next (if (bits ++ [d]).length < 9 then s.shifted p (bits ++ [d]) else (s.shifted p bits).completeUnit p (bits ++ [d])) := by
  have sample : (s.shifted p bits).clockEdge p d = (s.shifted p bits).sampleBit p d := by
    unfold State.clockEdge
    rw [shifted_port]
    rcases frame with frame | ⟨frame, -⟩ <;> rw [frame]
  refine (live_unit (s := s.shifted p bits) awake (by rw [shifted_port]; exact selected)).trans (congrArg _ ?_)
  rw [sample]
  unfold State.sampleBit
  dsimp only
  rw [shifted_port]
  refine if_congr Iff.rfl ?_ rfl
  rw [setPort_shifted]
  rfl

/-- Clocks that do not complete a unit sample its bits. -/
theorem steps_shifted (awake : s.held = false) (selected : (s.ports.get p).selected = true) (frame : (s.ports.get p).takesUnits)
    (rest : List Instr) (ds : List Bool) : ∀ bits : List Bool, bits.length + ds.length ≤ 8 →
      steps ds.length { s.shifted p bits with pending := ds.map (fun d => Instr.replyClock p d) ++ rest } =
        .next { s.shifted p (bits ++ ds) with pending := rest } := by
  induction ds with
  | nil => intro bits _; rw [List.append_nil]; rfl
  | cons d ds ih =>
    intro bits within
    rw [List.length_cons] at within
    have clock : ∀ queue, exec (.replyClock p d) { s.shifted p bits with pending := queue }
        = .next { s.shifted p (bits ++ [d]) with pending := queue } := fun queue =>
      (exec_clock_samples (s := { s with pending := queue }) awake selected frame).trans
        (congrArg _ (if_pos (by simp; omega)))
    rw [List.map_cons, List.cons_append, List.length_cons, steps_succ _ (clock _), ih _ (by simp; omega), List.append_assoc]
    rfl

/-- The bits of a byte, most significant first, make the byte (R169). -/
theorem byteMsbFirst_bits (b : Byte) : byteMsbFirst ((List.range 8).map fun k => b.getLsbD (7 - k)) = b := by
  refine BitVec.eq_of_getLsbD_eq fun i hi => ?_
  have bit := byteMsbFirst_getLsbD_sub (bs := (List.range 8).map fun k => b.getLsbD (7 - k)) rfl (k := 7 - i) (by omega)
  rw [show 7 - (7 - i) = i by omega] at bit
  rw [bit, List.getD_eq_getElem _ _ (by simp; omega)]
  simp [show 7 - (7 - i) = i by omega]

/-- Settles O37: eight clocks sample bits, the ninth completes the unit that they make. -/
theorem nineClocksMakeUnit : Obligations.NineClocksMakeUnit := by
  unfold Obligations.NineClocksMakeUnit
  intro p kind b s awake selected empty frame
  have start : s.shifted p [] = s := by
    unfold State.shifted State.setPort
    rw [← empty, PerPort.set_get]
  obtain ⟨first, last, split, length⟩ : ∃ first last, kind :: (List.range 8).map (fun k => b.getLsbD (7 - k)) = first ++ [last]
      ∧ first.length = 8 := ⟨kind :: (List.range 7).map (fun k => b.getLsbD (7 - k)), b.getLsbD 0, rfl, rfl⟩
  have sampled := steps_shifted awake selected frame (.replyClock p last :: s.pending) first [] (by simp [length])
  rw [start, List.nil_append, length] at sampled
  rw [split, List.map_append, List.append_assoc, List.map_singleton, List.singleton_append, steps_add 1 8 sampled,
    steps_succ (s := s.shifted p first) 0 (exec_clock_samples awake selected frame),
    if_neg (by simp [length]), ← split]
  unfold State.completeUnit
  have byte : BitVec.ofNat 8 (bitsToNat (kind :: (List.range 8).map fun k => b.getLsbD (7 - k)).tail) = b := byteMsbFirst_bits b
  rw [byte]
  cases kind with
  | true => exact ((live_unit awake selected).trans (congrArg _ (kind1Unit_shifted first frame).symm)).symm
  | false => exact ((live_unit awake selected).trans (congrArg _ (kind0Unit_shifted first frame).symm)).symm

/-! ### The units of a row, each a command of its own (log 8) -/

/-- The order leaves the level of SEL and does not look at the waiting commands. -/
def Unqueued (p : Port) (order : State → Answer) : Prop :=
  ∀ s, ((order s).state.ports.get p).selected = (s.ports.get p).selected
    ∧ ∀ queue, order { s with pending := queue } = ⟨{ (order s).state with pending := queue }, (order s).result, (order s).reply⟩

theorem PortlessOrder.unqueued {order : State → Answer} (h : PortlessOrder order) : Unqueued p order := fun s => by
  refine ⟨by rw [h.ports_eq s], fun queue => ?_⟩
  rw [show ({ s with pending := queue } : State) = s.onPorts s.ports queue from rfl, h, ← h.ports_eq s]; rfl

theorem unqueued_linkReset : Unqueued p (orderLinkReset p) := fun s => by
  have hold := portless_resetHold p (s.setPort p { s.ports.get p with order := none, ended := false })
  have ports := (portless_resetHold p).ports_eq (s.setPort p { s.ports.get p with order := none, ended := false })
  refine ⟨?_, fun queue => ?_⟩
  · rw [orderLinkReset_eq]
    simp only [Answer.done, State.relinked, ports, PerPort.get_set_same]
    simp [State.setPort]
  · have queued := hold (s.setPort p { s.ports.get p with order := none, ended := false }).ports queue
    rw [← ports] at queued
    rw [orderLinkReset_eq, orderLinkReset_eq]
    exact congrArg (fun t => Answer.done (State.relinked p t)) ((by rw [ports]; rfl : _ = _).trans queued)

theorem unqueued_orderOf (code : Byte) (ps : List Byte) : Unqueued p (orderOf p code ps) := by
  by_cases status : code.toNat = 0x38
  · obtain rfl : code = 0x38 := BitVec.eq_of_toNat_eq status
    exact fun _ => ⟨rfl, fun _ => rfl⟩
  by_cases reset : code.toNat = 0x3F
  · obtain rfl : code = 0x3F := BitVec.eq_of_toNat_eq reset
    exact unqueued_linkReset
  · exact (portless_orderOf p ps status reset).unqueued

/-- From `s` to `f s` the level of SEL stays, and `f` does not look at the waiting commands. -/
def Unwaiting (p : Port) (f : State → State) : Prop :=
  ∀ s, ((f s).ports.get p).selected = (s.ports.get p).selected
    ∧ ∀ queue, f { s with pending := queue } = { f s with pending := queue }

theorem Unqueued.take {order : State → Answer} (h : Unqueued p order) : Unwaiting p (State.take p order) := fun s => by
  obtain ⟨selected, queue⟩ := h s
  refine ⟨by rw [State.take_eq_answered]; simpa [State.answered] using selected, fun q => ?_⟩
  rw [State.take_eq_answered, State.take_eq_answered, queue]; rfl

theorem Unwaiting.comp {f g : State → State} (hf : Unwaiting p f) (hg : Unwaiting p g) : Unwaiting p fun s => g (f s) :=
  fun s => ⟨(hg _).1.trans (hf s).1, fun queue => by
    have first := (hf s).2 queue
    have second := (hg (f s)).2 queue
    dsimp only
    rw [first, second]⟩

theorem unwaiting_keepParams (o : Pending) : Unwaiting p (State.keepParams p o) :=
  fun s => ⟨by simp [State.keepParams, State.setPort], fun _ => rfl⟩

theorem unwaiting_settle (o : Pending) (r : ResultCode) (reply : List Byte) : Unwaiting p (fun s => s.settle p o r reply) :=
  fun s => by
    refine ⟨?_, fun queue => ?_⟩
    · dsimp only; rw [settle_eq]; simp
    · dsimp only; rw [settle_eq, settle_eq]

theorem unwaiting_parameter (o : Pending) (b : Byte) : Unwaiting p (fun s => s.parameter p o b) := by
  unfold State.parameter
  cases o.due with
  | none =>
    unfold State.lengthUnit
    dsimp only
    split
    · exact Unwaiting.comp (f := fun s => { s with ex.deposits := s.ex.deposits.set p none }) (fun _ => ⟨rfl, fun _ => rfl⟩)
        (unwaiting_settle _ _ _)
    · exact unwaiting_keepParams _
  | some n =>
    dsimp only
    split
    · exact (unqueued_orderOf _ _).take
    · refine Unwaiting.comp (f := State.countDeposit p _) (fun s => ?_) (unwaiting_keepParams _)
      unfold State.countDeposit
      split <;> exact ⟨rfl, fun _ => rfl⟩

theorem unwaiting_passOver (o : Pending) (b : Byte) : Unwaiting p (fun s => s.passOver p o b) := by
  unfold State.passOver
  cases o.due with
  | none => exact unwaiting_keepParams _
  | some n =>
    dsimp only
    split
    · exact fun s => ⟨by simp [State.setPort], fun _ => rfl⟩
    · exact unwaiting_keepParams _

theorem unwaiting_kind1Unit (b : Byte) : Unwaiting p (fun s => s.kind1Unit p b) := fun s => by
  unfold State.kind1Unit
  dsimp only
  cases (s.ports.get p).frame with
  | expectOrder => exact ⟨by simp [State.strayUnit, State.setPort], fun _ => rfl⟩
  | params =>
    dsimp only
    cases (s.ports.get p).order with
    | none => exact ⟨rfl, fun _ => rfl⟩
    | some o =>
      dsimp only
      split
      · exact unwaiting_passOver o b s
      · exact unwaiting_parameter o b s
  | reply => exact ⟨rfl, fun _ => rfl⟩
  | paused => exact ⟨rfl, fun _ => rfl⟩

/-- Parameter units that come one after another. -/
theorem steps_parameterUnits (rest : List Instr) (bs : List Byte) : ∀ {s : State}, s.held = false → (s.ports.get p).selected = true →
    steps bs.length { s with pending := bs.map (fun b => Instr.parameterUnit p b) ++ rest } =
      .next { s.kind1Units p bs with pending := rest } := by
  induction bs with
  | nil => intros; rfl
  | cons b bs ih =>
    intro s awake selected
    have unit : ∀ queue, exec (.parameterUnit p b) { s with pending := queue } = .next { s.kind1Unit p b with pending := queue } :=
      fun queue => (live_unit (s := { s with pending := queue }) awake selected).trans
        (congrArg _ ((unwaiting_kind1Unit b s).2 queue))
    rw [List.map_cons, List.cons_append, List.length_cons, steps_succ _ (unit _),
      ih ((attends_kind1Unit b s).held.trans awake) ((unwaiting_kind1Unit b s).1.trans selected)]
    rfl

theorem unwaiting_beginOrder (code : Byte) : Unwaiting p (fun s => s.beginOrder p code) := by
  unfold State.beginOrder
  split
  · intro s
    refine ⟨?_, fun queue => ?_⟩
    · dsimp only [State.answerBadOrder]; rw [State.restartHold_eq]; simp [State.setPort]
    · dsimp only [State.answerBadOrder]; rw [State.restartHold_eq, State.restartHold_eq]; rfl
  · exact (unqueued_orderOf _ _).take
  · exact fun s => ⟨by simp [State.beginParams, State.setPort], fun _ => rfl⟩
  · exact fun s => ⟨by simp [State.beginParams, State.setPort], fun _ => rfl⟩
  · intro s
    dsimp only
    split
    · exact unwaiting_settle _ _ _ s
    · exact ⟨by simp [State.beginParams, State.setPort], fun _ => rfl⟩

/-- The units of an order, one command each, do what the row does that stands for them (log 8). -/
theorem steps_orderUnits (hs : s.ready p) (code : Byte) (params : List Byte) (rest : List Instr) :
    steps (params.length + 1) { s with pending := orderUnits p code params ++ rest } =
      .next { (s.beginOrder p code).kind1Units p params with pending := rest } := by
  obtain ⟨awake, selected, frame⟩ := hs
  have unit : ∀ queue, exec (.orderUnit p code) { s with pending := queue } = .next { s.beginOrder p code with pending := queue } :=
    fun queue => (live_unit (s := { s with pending := queue }) awake selected).trans (congrArg _
      ((kind0Unit_expectOrder (s := { s with pending := queue }) frame).trans ((unwaiting_beginOrder code s).2 queue)))
  unfold orderUnits
  rw [List.cons_append, steps_succ _ (unit _)]
  exact steps_parameterUnits rest params ((attends_beginOrder code s).held.trans awake)
    ((unwaiting_beginOrder code s).1.trans selected)

/-! ### The orders of a fixed number of parameters (R170, R171) -/

/-- Port `p` in PARAMS with the parameters `taken` of an order of a fixed number, `due` units to come. -/
def State.gathering (p : Port) (code : Byte) (taken : List Byte) (due : Nat) (s : State) : State :=
  s.setPort p { s.ports.get p with frame := .params, shift := [], order := some ⟨code, taken, some due⟩, ended := false }

/-- The last of the parameters due takes the order with all of them. -/
theorem kind1Units_gathering {code : Byte} (fixed : code ≠ depositCode) (bs : List Byte) : ∀ (b : Byte) (taken : List Byte),
    (s.gathering p code taken (bs.length + 1)).kind1Units p (b :: bs) = s.take p (orderOf p code (taken ++ b :: bs)) := by
  induction bs with
  | nil =>
    intro b taken
    have unit := kind1Unit_params (s := s.gathering p code taken 1) (p := p) (b := b) (o := ⟨code, taken, some 1⟩)
      (by simp [State.gathering, State.setPort]) (by simp [State.gathering, State.setPort])
    rw [if_neg (by simp [State.gathering, State.setPort]), parameter_last rfl] at unit
    exact unit.trans (take_agrees code (taken ++ [b]) ⟨rfl, rfl, rfl, rfl⟩)
  | cons c bs ih =>
    intro b taken
    have unit := kind1Unit_params (s := s.gathering p code taken (bs.length + 2)) (p := p) (b := b)
      (o := ⟨code, taken, some (bs.length + 2)⟩) (by simp [State.gathering, State.setPort]) (by simp [State.gathering, State.setPort])
    rw [if_neg (by simp [State.gathering, State.setPort]), parameter_more rfl, State.countDeposit, if_neg fixed] at unit
    have next : (s.gathering p code taken (bs.length + 2)).keepParams p ⟨code, taken ++ [b], some (bs.length + 1)⟩
        = s.gathering p code (taken ++ [b]) (bs.length + 1) := by
      simp [State.gathering, State.keepParams, State.setPort, PerPort.set_set]
    rw [next] at unit
    refine (congrArg (State.kind1Units p (c :: bs)) unit).trans ?_
    rw [ih c (taken ++ [b]), List.append_assoc]
    rfl

theorem kind1Units_fixed {code : Byte} {params : List Byte} (calls : callsOf code = some (.fixed params.length)) :
    (s.beginOrder p code).kind1Units p params = s.take p (orderOf p code params) := by
  match params with
  | [] => rw [beginOrder_fixed_zero calls]; rfl
  | b :: bs =>
    rw [beginOrder_fixed calls]
    refine kind1Units_gathering (fun deposit => ?_) bs b []
    rw [(callsOf_eq_deposit_iff code).2 deposit] at calls
    cases calls

theorem steps_fixed (hs : s.ready p) {code : Byte} {params : List Byte} (calls : callsOf code = some (.fixed params.length)) :
    steps (params.length + 1) { s with pending := orderUnits p code params ++ s.pending } =
      .next (State.answered p (orderOf p code params s).result (orderOf p code params s).reply (orderOf p code params s).state) := by
  have whole := steps_orderUnits hs code params s.pending
  rw [kind1Units_fixed calls, ← ((unqueued_orderOf code params).take s).2 s.pending] at whole
  exact whole.trans (congrArg _ (State.take_eq_answered _ _ _))

end

end Sys2Proof.Machine
end

section
/-! Order rows and their wire form (Tables 11-3 and 11-4): the parameter bytes of a row parse back to the row's own fields. -/

namespace Sys2Proof.Machine

open Sys2Proof

theorem word16_of_bytes (v : BitVec 16) : v.extractLsb' 8 8 ++ v.extractLsb' 0 8 = v := by
  refine BitVec.eq_of_getLsbD_eq fun i hi => ?_
  rw [BitVec.getLsbD_append]
  simp only [BitVec.getLsbD_extractLsb']
  by_cases low : i < 8
  · simp [low]
  · simp [low, show i - 8 < 8 by omega, show 8 + (i - 8) = i by omega]

theorem word32_of_bytes (v : BitVec 32) :
    (v.extractLsb' 24 8 ++ v.extractLsb' 16 8 : BitVec 16) ++ (v.extractLsb' 8 8 ++ v.extractLsb' 0 8 : BitVec 16) = v := by
  refine BitVec.eq_of_getLsbD_eq fun i hi => ?_
  simp only [BitVec.getLsbD_append, BitVec.getLsbD_extractLsb']
  rcases (show i < 8 ∨ 8 ≤ i ∧ i < 16 ∨ 16 ≤ i ∧ i < 24 ∨ 24 ≤ i by omega) with h | h | h | h
  · simp [h, show i < 16 by omega]
  · simp [show ¬ i < 8 by omega, show i < 16 by omega, show i - 8 < 8 by omega, show 8 + (i - 8) = i by omega]
  · simp [show ¬ i < 16 by omega, show i - 16 < 8 by omega, show 16 + (i - 16) = i by omega]
  · simp [show ¬ i < 16 by omega, show ¬ i - 16 < 8 by omega, show i - 16 - 8 < 8 by omega,
      show 24 + (i - 16 - 8) = i by omega]

theorem targetAt_bytes (w : TargetWire) : targetAt (orderWire.targetWireBytes w) 0 = w := by
  obtain ⟨⟨truck, number⟩, material, ⟨target, mass⟩⟩ := w
  simp only [targetAt, TargetWire.mk.injEq, OptWire.mk.injEq]
  exact ⟨⟨rfl, word16_of_bytes _⟩, rfl, rfl, word32_of_bytes _⟩

theorem targetAt_cons (n : Byte) (w : TargetWire) : targetAt (n :: orderWire.targetWireBytes w) 1 = w := by
  obtain ⟨⟨truck, number⟩, material, ⟨target, mass⟩⟩ := w
  simp only [targetAt, TargetWire.mk.injEq, OptWire.mk.injEq]
  exact ⟨⟨rfl, word16_of_bytes _⟩, rfl, rfl, word32_of_bytes _⟩

/-- The parameter bytes of a WEIGH write, and the rest of its area (R181). -/
theorem weighAt_bytes (w : WeighWire) (rest : List Byte) :
    weighAt (1 :: w.nCyl :: bytes16 w.aHead ++ bytes16 w.aRod ++ bytes16 w.thetaStart ++ bytes16 w.thetaEnd
      ++ [w.filter, w.minS, w.minB, w.kp] ++ bytes16 w.pitchLimit ++ [w.wtMax] ++ rest) 1 = w := by
  cases w
  simp only [weighAt, WeighWire.mk.injEq]
  exact ⟨rfl, word16_of_bytes _, word16_of_bytes _, word16_of_bytes _, word16_of_bytes _, rfl, rfl, rfl, rfl, word16_of_bytes _, rfl⟩

theorem cycleAt_bytes (w : CycleWire) (rest : List Byte) :
    cycleAt (2 :: bytes16 w.thetaLow ++ bytes16 w.thetaDump ++ bytes16 w.phiDump ++ [w.hyst] ++ bytes16 w.dumpDwell ++ rest) 1
      = w := by
  cases w
  simp only [cycleAt, CycleWire.mk.injEq]
  exact ⟨word16_of_bytes _, word16_of_bytes _, word16_of_bytes _, rfl, word16_of_bytes _⟩

theorem loadAt_bytes (w : LoadWire) (rest : List Byte) :
    loadAt (3 :: bytes16 w.bucketVol ++ [w.tol, w.ovr, w.autoClose, w.barMode] ++ rest) 1 = w := by
  cases w
  simp only [loadAt, LoadWire.mk.injEq]
  exact ⟨word16_of_bytes _, rfl, rfl, rfl, rfl⟩

theorem materialAt_bytes (w : MaterialWire) :
    materialAt (w.index :: w.nameLength :: w.name.toList ++ bytes16 w.density) = w := by
  cases w
  simp only [materialAt, MaterialWire.mk.injEq]
  exact ⟨rfl, rfl, rfl, word16_of_bytes _⟩

/-- Eight words of an area, each from its four bytes. -/
theorem eight32At_eq {ps : List Byte} {i : Nat} {v : Eight (BitVec 32)} (word : ∀ k : Fin 8, word32At ps (i + 4 * k.val) = v.get k) :
    eight32At ps i = v := by
  cases v
  simp only [eight32At, Eight.tabulate, Eight.mk.injEq]
  exact ⟨word 0, word 1, word 2, word 3, word 4, word 5, word 6, word 7⟩

theorem tableAt_bytes (w : TableWire) :
    tableAt (bytes16 w.mref ++ w.tare.toList.flatMap bytes32 ++ w.loaded.toList.flatMap bytes32) = w := by
  obtain ⟨mref, tare, loaded⟩ := w
  simp only [tableAt, TableWire.mk.injEq]
  refine ⟨word16_of_bytes _, eight32At_eq fun k => ?_, eight32At_eq fun k => ?_⟩
  · fin_cases k <;> exact word32_of_bytes _
  · fin_cases k <;> exact word32_of_bytes _

/-- The order of a row, as its order code and its parameter bytes name it; any bytes fill the rest of a record area (R181). -/
theorem orderOf_wire {c : Instr} {p : Port} {code : Byte} {params rest : List Byte} (row : orderWire c = some (p, code, params))
    (noDeposit : code ≠ 0x20) (noText : code ≠ 0x31) (area : if code = 0x11 then (params ++ rest).length = 25 else rest = []) :
    callsOf code = some (.fixed (params ++ rest).length) ∧
      ∀ s, exec c s = live s (State.takeOrder p (orderOf p code (params ++ rest))) := by
  have written : code = 0x11 → callsOf code = some (.fixed (params ++ rest).length) := fun write => by
    rw [if_pos write] at area
    rw [write, area]; rfl
  have record : ∀ order : State → Answer, orderOf p code (params ++ rest) = order → (∀ s, exec c s = live s (State.takeOrder p order)) →
      ∀ s, exec c s = live s (State.takeOrder p (orderOf p code (params ++ rest))) := fun order same acts s => by
    rw [same]; exact acts s
  cases c with
  | depositMessage => cases row; exact absurd rfl noDeposit
  | putText => cases row; exact absurd rfl noText
  | writeSettingsSample q r =>
    cases row
    exact ⟨written rfl, fun _ => rfl⟩
  | writeSettingsWeigh q w =>
    cases row
    exact ⟨written rfl, record (orderWriteWeigh p w) (congrArg (orderWriteWeigh p) (weighAt_bytes w rest)) fun _ => rfl⟩
  | writeSettingsCycle q w =>
    cases row
    exact ⟨written rfl, record (orderWriteCycle p w) (congrArg (orderWriteCycle p) (cycleAt_bytes w rest)) fun _ => rfl⟩
  | writeSettingsLoad q w =>
    cases row
    exact ⟨written rfl, record (orderWriteLoad w) (congrArg orderWriteLoad (loadAt_bytes w rest)) fun _ => rfl⟩
  | writeSettingsLines q w =>
    cases row
    exact ⟨written rfl, fun _ => rfl⟩
  | writeSettingsStrip q w =>
    cases row
    exact ⟨written rfl, fun _ => rfl⟩
  | setTarget q w =>
    cases row; cases area
    exact ⟨rfl, record (orderSetTarget p w) (congrArg (orderSetTarget p) (targetAt_bytes w)) fun _ => rfl⟩
  | setNext q n w =>
    cases row; cases area
    exact ⟨rfl, record (orderSetNext p n w) (congrArg (orderSetNext p n) (targetAt_cons n w)) fun _ => rfl⟩
  | writeTable q w =>
    cases row; cases area
    rw [List.append_nil] at record ⊢
    exact ⟨rfl, record (orderWriteTable p w) (congrArg (orderWriteTable p) (tableAt_bytes w)) fun _ => rfl⟩
  | writeMaterial q w =>
    cases row; cases area
    rw [List.append_nil] at record ⊢
    exact ⟨rfl, record (orderWriteMaterial w) (congrArg orderWriteMaterial (materialAt_bytes w)) fun _ => rfl⟩
  | releaseLoad q n =>
    cases row; cases area
    exact ⟨rfl, record (orderReleaseLoad n) (congrArg orderReleaseLoad (word16_of_bytes n)) fun _ => rfl⟩
  | calLoaded q m =>
    cases row; cases area
    exact ⟨rfl, record (orderCalLoaded p m) (congrArg (orderCalLoaded p) (word16_of_bytes m)) fun _ => rfl⟩
  | clearNotices q m =>
    cases row; cases area
    exact ⟨rfl, record (orderClearNotices p m) (congrArg (orderClearNotices p) (word16_of_bytes m)) fun _ => rfl⟩
  | enableNotices q m =>
    cases row; cases area
    exact ⟨rfl, record (orderEnableNotices p m) (congrArg (orderEnableNotices p) (word16_of_bytes m)) fun _ => rfl⟩
  | _ => cases row <;> cases area <;> exact ⟨rfl, fun _ => rfl⟩

/-- DEPOSIT_MESSAGE and PUT_TEXT stand for their units, one after another (log 8). -/
theorem exec_lengthRow {c : Instr} {p : Port} {code : Byte} {params : List Byte} {s : State} (hs : s.ready p)
    (row : orderWire c = some (p, code, params)) (length : code = 0x20 ∨ code = 0x31) :
    exec c s = .next ((s.beginOrder p code).kind1Units p params) := by
  obtain ⟨awake, selected, frame⟩ := hs
  have units : live s (State.whileSelected p fun t => (t.kind0Unit p code).kind1Units p params) =
      .next ((s.beginOrder p code).kind1Units p params) :=
    (live_unit awake selected).trans (congrArg (fun t => Host.Outcome.next (State.kind1Units p params t)) (kind0Unit_expectOrder frame))
  cases c with
  | depositMessage => cases row; exact units
  | putText => cases row; exact units
  | _ => cases row <;> rcases length with length | length <;> cases length

/-- A group code above 5 (R179). -/
theorem badGroup_answer {group : Byte} (high : 5 < group.toNat) (p : Port) (ps : List Byte) (s : State) :
    orderReadSettings group s = Answer.badParam s badGroup
      ∧ (byteAt ps 0 = group → orderWriteSettings p ps s = Answer.badParam s badGroup) := by
  obtain ⟨n, above⟩ : ∃ n, group.toNat = n + 6 := ⟨group.toNat - 6, by omega⟩
  refine ⟨?_, fun first => ?_⟩
  · unfold orderReadSettings
    rw [above]; rfl
  · unfold orderWriteSettings
    rw [first, above]; rfl

/-- Settles O38: the units of an order by whether its parameters are a fixed number, and the bad group codes. -/
theorem unitsMakeOrder : Obligations.UnitsMakeOrder := by
  unfold Obligations.UnitsMakeOrder
  refine ⟨fun p code params s hs calls => steps_fixed hs calls, fun p c code params rest s hs row wf area => ?row,
    fun p group area s hs high length => ?group⟩
  case row =>
    by_cases byLength : code = 0x20 ∨ code = 0x31
    · have other : code ≠ 0x11 := by rcases byLength with rfl | rfl <;> decide
      rw [if_neg other] at area
      rw [area, List.append_nil, steps_orderUnits hs, exec_lengthRow hs row byLength]
      rw [← ((attends_kind1Units params _).pending.trans (attends_beginOrder code s).pending)]
    · obtain ⟨calls, acts⟩ := orderOf_wire row (fun e => byLength (.inl e)) (fun e => byLength (.inr e)) area
      rw [steps_fixed hs calls, acts, live_takeOrder_ready hs]
  case group =>
    obtain ⟨read, write⟩ := badGroup_answer high p (group :: area) s
    refine ⟨(steps_fixed hs (code := 0x10) (params := [group]) rfl).trans ?_, ?_⟩
    · rw [show orderOf p 0x10 [group] s = orderReadSettings group s from rfl, read]; rfl
    · have units := steps_fixed hs (code := 0x11) (params := group :: area) (by rw [List.length_cons, length]; rfl)
      rw [List.length_cons, length] at units
      rw [units, show orderOf p 0x11 (group :: area) s = orderWriteSettings p (group :: area) s from rfl, write rfl]; rfl

end Sys2Proof.Machine
end

section
/-! DEPOSIT_MESSAGE and PUT_TEXT unit by unit, READ_MESSAGE, and the counter of a window (R150, R152, R159, R160, R162, R172). -/

namespace Sys2Proof.Machine

open Sys2Proof

section

variable {p : Port} {s : State} {b : Byte}

/-! ### Units passed over (R172) -/

theorem settle_port (o : Pending) (r : ResultCode) (reply : List Byte) :
    (s.settle p o r reply).ports.get p = { s.ports.get p with
      frame := .params, shift := [], order := some o, ended := true, reply := some ⟨r.code :: reply, 0⟩, lastResult := r } := by
  rw [settle_eq]; exact PerPort.get_set_same _ _ _

theorem kind1Unit_settled (o : Pending) (r : ResultCode) (reply : List Byte) (b : Byte) :
    (s.settle p o r reply).kind1Unit p b = (s.settle p o r reply).passOver p o b := by
  rw [kind1Unit_params (o := o) (by rw [settle_port]) (by rw [settle_port]), if_pos (by rw [settle_port])]

theorem settle_keepParams (o o' : Pending) (r : ResultCode) (reply : List Byte) :
    (s.settle p o r reply).keepParams p o' = s.settle p o' r reply := by
  unfold State.keepParams
  rw [settle_port, settle_eq, settle_eq]
  simp [State.setPort, PerPort.set_set]

/-- The units due of a settled order are discarded, and after the last one the reply stands. -/
theorem kind1Units_passOver (r : ResultCode) (reply : List Byte) (bs : List Byte) : ∀ (b : Byte) (o : Pending),
    o.due = some (bs.length + 1) → (s.settle p o r reply).kind1Units p (b :: bs) = s.answered p r reply := by
  induction bs with
  | nil =>
    intro b o due
    refine (kind1Unit_settled o r reply b).trans ?_
    rw [passOver_last due, settle_port, settle_eq]
    simp [State.setPort, State.answered, PerPort.set_set]
  | cons c bs ih =>
    intro b o due
    refine (congrArg (State.kind1Units p (c :: bs)) ((kind1Unit_settled o r reply b).trans (passOver_more due))).trans ?_
    rw [settle_keepParams, ih c _ rfl]

/-! ### The length unit (R171, R172) -/

theorem beginParams_port (code : Byte) (due : Option Nat) :
    (s.beginParams p code due).ports.get p = { s.ports.get p with
      frame := .params, shift := [], order := some ⟨code, [], due⟩, ended := false } := PerPort.get_set_same _ _ _

theorem kind1Unit_length (code : Byte) : (s.beginParams p code none).kind1Unit p b
    = (s.beginParams p code none).lengthUnit p ⟨code, [], none⟩ b := by
  rw [kind1Unit_params (o := ⟨code, [], none⟩) (by rw [beginParams_port]) (by rw [beginParams_port]),
    if_neg (by rw [beginParams_port]; simp), parameter_length rfl]

/-- A length above 64 settles the order, which its remaining units then only count (R172). -/
theorem kind1Unit_length_long (code : Byte) (long : 64 < b.toNat) : (s.beginParams p code none).kind1Unit p b
    = State.settle p ⟨code, [b], some (unitsAfterLength code b)⟩ .badParam [0] { s with ex.deposits := s.ex.deposits.set p none } := by
  rw [kind1Unit_length, lengthUnit_long long, settle_eq, settle_eq]
  simp [State.beginParams, State.setPort, PerPort.set_set, u8]
  rfl

theorem kind1Unit_length_short (code : Byte) (short : b.toNat ≤ 64) : (s.beginParams p code none).kind1Unit p b
    = s.gathering p code [b] (unitsAfterLength code b) := by
  rw [kind1Unit_length, lengthUnit_short short]
  simp [State.beginParams, State.keepParams, State.gathering, State.setPort, PerPort.set_set]

theorem exists_cons_of_lengthAgrees {length : Byte} {bytes : List Byte} (h : lengthAgrees length bytes = true) :
    bytes.length = lengthCount length ∧ ∃ c cs, bytes = c :: cs := by
  have count : bytes.length = lengthCount length := by simpa [lengthAgrees] using h
  refine ⟨count, List.exists_cons_of_length_pos (count ▸ ?_)⟩
  unfold lengthCount
  split_ifs with zero
  · decide
  · exact Nat.pos_of_ne_zero fun e => zero (BitVec.eq_of_toNat_eq e)

/-! ### PUT_TEXT (R152) -/

theorem exec_putText {length : Byte} {chars : List Byte} (hs : s.ready p) (agrees : lengthAgrees length chars = true) :
    exec (.putText p length chars) s = .next
      (if 64 < length.toNat then State.answered p .badParam [0] { s with ex.deposits := s.ex.deposits.set p none }
        else s.take p (orderPutText p chars)) := by
  obtain ⟨count, c, cs, rfl⟩ := exists_cons_of_lengthAgrees agrees
  rw [exec_lengthRow hs rfl (.inr rfl), beginOrder_text rfl]
  refine congrArg _ ?_
  show ((s.beginParams p 0x31 none).kind1Unit p length).kind1Units p (c :: cs) = _
  split_ifs with long
  · rw [kind1Unit_length_long _ long]
    exact kind1Units_passOver _ _ cs c _ (congrArg some count.symm)
  · rw [kind1Unit_length_short _ (by omega), show unitsAfterLength 0x31 length = cs.length + 1 from count.symm,
      kind1Units_gathering (by decide)]
    rfl

/-! ### DEPOSIT_MESSAGE (R160) -/

/-- A deposit in progress on port `p` with the parameters `taken`, `due` units to come. -/
def State.depositing (p : Port) (taken : List Byte) (due : Nat) (s : State) : State :=
  { s with ex.deposits := s.ex.deposits.set p (some (taken.length - 2)) }.gathering p depositCode taken due

theorem kind1Unit_depositing (taken : List Byte) (due : Nat) :
    (s.depositing p taken due).kind1Unit p b
      = (s.depositing p taken due).parameter p ⟨depositCode, taken, some due⟩ b := by
  rw [kind1Unit_params (o := ⟨depositCode, taken, some due⟩) (by simp [State.depositing, State.gathering, State.setPort])
    (by simp [State.depositing, State.gathering, State.setPort]),
    if_neg (by simp [State.depositing, State.gathering, State.setPort])]

/-- The bytes of a deposit in progress, the last of which stores the message. -/
theorem kind1Units_depositing (bs : List Byte) : ∀ (b : Byte) (taken : List Byte),
    (s.depositing p taken (bs.length + 1)).kind1Units p (b :: bs) = s.take p (orderDeposit p (taken ++ b :: bs)) := by
  induction bs with
  | nil =>
    intro b taken
    refine ((kind1Unit_depositing taken 1).trans (parameter_last rfl)).trans ?_
    have begun := take_agrees (s := { s with ex.deposits := s.ex.deposits.set p (some (taken.length - 2)) }) (p := p)
      depositCode (taken ++ [b]) (q := { s.ports.get p with
        frame := .params, shift := [], order := some ⟨depositCode, taken, some 1⟩, ended := false }) ⟨rfl, rfl, rfl, rfl⟩
    refine begun.trans ?_
    rw [State.take_eq_answered, State.take_eq_answered]
    simp [orderOf, depositCode, orderDeposit, State.storeMessage, State.answered, State.raise]
  | cons c bs ih =>
    intro b taken
    have next : (s.depositing p taken (bs.length + 2)).kind1Unit p b = s.depositing p (taken ++ [b]) (bs.length + 1) := by
      rw [kind1Unit_depositing, parameter_more rfl, State.countDeposit, if_pos rfl]
      simp [State.depositing, State.gathering, State.keepParams, State.setPort]
    refine (congrArg (State.kind1Units p (c :: bs)) next).trans ?_
    rw [ih c (taken ++ [b]), List.append_assoc]
    rfl

/-- An order unit of DEPOSIT_MESSAGE, with the outbound slot EMPTY, then its length and its SHOW unit. -/
theorem kind1Units_deposit_short {length : Byte} (short : length.toNat ≤ 64) (showFlag : Byte) (bytes : List Byte) :
    (State.beginParams p depositCode none { s with ex.deposits := s.ex.deposits.set p (some 0) }).kind1Units p
        (length :: showFlag :: bytes)
      = (s.depositing p [length] (lengthCount length + 1)).kind1Units p (showFlag :: bytes) := by
  refine congrArg (State.kind1Units p (showFlag :: bytes)) ((kind1Unit_length_short _ short).trans ?_)
  simp [State.depositing, unitsAfterLength]

theorem kind1Units_deposit_long {length : Byte} (long : 64 < length.toNat) (showFlag : Byte) (bytes : List Byte)
    (count : bytes.length = lengthCount length) :
    (State.beginParams p depositCode none { s with ex.deposits := s.ex.deposits.set p (some 0) }).kind1Units p
        (length :: showFlag :: bytes)
      = State.answered p .badParam [0] { s with ex.deposits := s.ex.deposits.set p none } := by
  refine (congrArg (State.kind1Units p (showFlag :: bytes)) (kind1Unit_length_long _ long)).trans ?_
  rw [kind1Units_passOver _ _ bytes showFlag _ (by simp [unitsAfterLength, count])]
  simp

theorem exec_depositMessage {length showFlag : Byte} {bytes : List Byte} (hs : s.ready p)
    (agrees : lengthAgrees length bytes = true) :
    exec (.depositMessage p length showFlag bytes) s = .next
      (if (s.ex.slots.get p).isSome then s.answered p .slotFull []
        else if 64 < length.toNat then State.answered p .badParam [0] { s with ex.deposits := s.ex.deposits.set p none }
        else s.take p (orderDeposit p (length :: showFlag :: bytes))) := by
  obtain ⟨count, c, cs, rfl⟩ := exists_cons_of_lengthAgrees agrees
  rw [exec_lengthRow hs rfl (.inl rfl), beginOrder_deposit rfl]
  refine congrArg _ ?_
  split_ifs with full long
  · refine (congrArg (State.kind1Units p (showFlag :: c :: cs)) ((kind1Unit_settled _ _ _ length).trans (passOver_length rfl))).trans ?_
    rw [settle_keepParams]
    exact kind1Units_passOver _ _ (c :: cs) showFlag _ (by simp [unitsAfterLength, depositCode, ← count])
  · exact kind1Units_deposit_long long showFlag (c :: cs) count
  · refine (kind1Units_deposit_short (by omega) showFlag (c :: cs)).trans ?_
    rw [← count]
    exact kind1Units_depositing (c :: cs) showFlag [length]

theorem Message.flags_eq (m : Message) :
    m.flags = (if m.showFlag then 1 else 0) + (if m.truncated then 2 else 0) + if m.acked then 4 else 0 := by
  obtain ⟨bytes, showFlag, truncated, acked⟩ := m
  unfold Message.flags
  cases showFlag <;> cases truncated <;> cases acked <;> rfl

/-- The length that the reply of a deposit gives: 0 stands for 64 (R160). -/
theorem ofNat_lengthCount (length : Byte) : BitVec.ofNat 8 (lengthCount length) = if length = 0 then 64 else length := by
  unfold lengthCount
  split_ifs <;> simp

/-- Settles O54: a deposit by its outbound slot and its length, and READ_MESSAGE by its inbound slot. -/
theorem messages : Obligations.Messages := by
  unfold Obligations.Messages
  intro p length showFlag bytes s hs agrees
  have deposit := exec_depositMessage (showFlag := showFlag) hs agrees
  have read : exec (.readMessage p) s = _ := live_takeOrder_ready hs (orderReadMessage p)
  refine ⟨fun full => ?_, fun empty long => ?_, fun empty short => ?_, fun none => ?_, fun m some => ?_⟩
  · rw [deposit, if_pos (Option.isSome_iff_ne_none.2 full)]
  · rw [deposit, if_neg (by simp [empty]), if_pos long]
  · rw [deposit, if_neg (by simp [empty]), if_neg (by omega), State.take_eq_answered, ← ofNat_lengthCount,
      ← (exists_cons_of_lengthAgrees agrees).1]
    rfl
  · rw [read]; unfold orderReadMessage; rw [none]; rfl
  · rw [read]; unfold orderReadMessage; rw [some]
    show Host.Outcome.next (State.answered p .ok (u8 m.bytes.length ++ [m.flags] ++ m.bytes) _) = _
    have differs : (fun q => q != other p) = fun q => decide (q ≠ other p) := by
      funext q; cases p <;> cases q <;> rfl
    rw [Message.flags_eq]
    simp [u8, State.raise, Notice.mask, Notice.priority, differs]

end

/-! ### The counter of a window (R152) -/

section

variable {w h r c : Nat}

theorem cellIndex_next (column : c + 1 < w) (row : r < h) : (w * r + c + 1) % (w * h) = w * r + (c + 1) := by
  have within := Nat.mul_le_mul_left w (show r + 1 ≤ h from row)
  rw [Nat.mul_add_one] at within
  exact Nat.mod_eq_of_lt (by omega)

theorem cellIndex_turn (column : c + 1 = w) (row : r + 1 < h) : (w * r + c + 1) % (w * h) = w * (r + 1) := by
  have within := Nat.mul_le_mul_left w (show r + 1 + 1 ≤ h from row)
  rw [Nat.mul_add_one] at within
  rw [Nat.add_assoc, column, ← Nat.mul_add_one]
  exact Nat.mod_eq_of_lt (by omega)

theorem cellIndex_wrap (column : c + 1 = w) (row : r + 1 = h) : (w * r + c + 1) % (w * h) = 0 := by
  rw [Nat.add_assoc, column, ← Nat.mul_add_one, row, Nat.mod_self]

end

theorem Window.advance_rowFirst {w : Window} (direction : w.direction = .rowFirst) :
    w.advance = if w.col < w.ce then { w with col := w.col + 1 }
      else { w with col := w.cs, row := if w.row < w.re then w.row + 1 else w.rs } := by
  unfold Window.advance; rw [direction]

theorem Window.advance_columnFirst {w : Window} (direction : w.direction = .columnFirst) :
    w.advance = if w.row < w.re then { w with row := w.row + 1 }
      else { w with row := w.rs, col := if w.col < w.ce then w.col + 1 else w.cs } := by
  unfold Window.advance; rw [direction]

/-- Along the rows the counter runs through the cells of the window in turn. -/
theorem Window.advance_index_rowFirst {w : Window} (h : w.sound) (direction : w.direction = .rowFirst) :
    (w.ce - w.cs + 1) * (w.advance.row - w.rs) + (w.advance.col - w.cs)
      = ((w.ce - w.cs + 1) * (w.row - w.rs) + (w.col - w.cs) + 1) % ((w.ce - w.cs + 1) * (w.re - w.rs + 1)) := by
  obtain ⟨left, right, -, top, bottom, -⟩ := h
  rw [Window.advance_rowFirst direction]
  split_ifs with column row
  · rw [cellIndex_next (by omega) (by omega)]; congr 1; dsimp only; omega
  · rw [cellIndex_turn (by omega) (by omega)]; dsimp only; rw [Nat.sub_self, Nat.add_zero]; congr 1; omega
  · rw [cellIndex_wrap (by omega) (by omega)]; simp

/-- Along the columns, likewise. -/
theorem Window.advance_index_columnFirst {w : Window} (h : w.sound) (direction : w.direction = .columnFirst) :
    (w.re - w.rs + 1) * (w.advance.col - w.cs) + (w.advance.row - w.rs)
      = ((w.re - w.rs + 1) * (w.col - w.cs) + (w.row - w.rs) + 1) % ((w.ce - w.cs + 1) * (w.re - w.rs + 1)) := by
  obtain ⟨left, right, -, top, bottom, -⟩ := h
  rw [Window.advance_columnFirst direction, Nat.mul_comm (w.ce - w.cs + 1)]
  split_ifs with row column
  · rw [cellIndex_next (by omega) (by omega)]; congr 1; dsimp only; omega
  · rw [cellIndex_turn (by omega) (by omega)]; dsimp only; rw [Nat.sub_self, Nat.add_zero]; congr 1; omega
  · rw [cellIndex_wrap (by omega) (by omega)]; simp

theorem Window.advance_bounds (w : Window) : w.advance = { w with col := w.advance.col, row := w.advance.row } := by
  obtain ⟨cs, ce, rs, re, direction, col, row⟩ := w
  cases direction with
  | rowFirst => simp only [Window.advance]; split_ifs <;> rfl
  | columnFirst => simp only [Window.advance]; split_ifs <;> rfl

/-! ### Characters written through a window (R150, R152) -/

theorem writeChars_window (chars : List Byte) : ∀ (w : Window) (m : List Host.Cell),
    (writeChars w m chars).1 = Window.advance^[chars.length] w := by
  induction chars with
  | nil => intros; rfl
  | cons c cs ih => intro w m; exact ih w.advance _

/-- A cell that the counter does not come to reads as before. -/
theorem textRead_writeChars_other (a : Nat) (chars : List Byte) : ∀ (w : Window) (m : List Host.Cell),
    (∀ j < chars.length, a ≠ textAddr (Window.advance^[j] w).col (Window.advance^[j] w).row) →
      textRead (writeChars w m chars).2 a = textRead m a := by
  induction chars with
  | nil => intros; rfl
  | cons c cs ih =>
    intro w m away
    show textRead (writeChars w.advance _ cs).2 a = _
    rw [ih _ _ fun j hj => away (j + 1) (by simpa using hj), textRead_write_other _ (show a ≠ textAddr w.col w.row from away 0 (by simp))]

/-- The cell of a character that no later character comes to holds that character. -/
theorem textRead_writeChars_last (chars : List Byte) : ∀ (w : Window) (m : List Host.Cell), w.sound → textWf m = true →
    ∀ j < chars.length,
      (∀ i < chars.length, j < i → textAddr (Window.advance^[i] w).col (Window.advance^[i] w).row
        ≠ textAddr (Window.advance^[j] w).col (Window.advance^[j] w).row) →
      textRead (writeChars w m chars).2 (textAddr (Window.advance^[j] w).col (Window.advance^[j] w).row)
        = stripChar (chars.getD j 0) := by
  induction chars with
  | nil => intro _ _ _ _ j hj; simp at hj
  | cons c cs ih =>
    intro w m sound wf j hj last
    have written : textWf (textWrite m (textAddr w.col w.row) (stripChar c)) = true :=
      (writeChars_sound [c] sound wf).2
    show textRead (writeChars w.advance _ cs).2 _ = _
    cases j with
    | zero =>
      rw [textRead_writeChars_other _ _ _ _ fun i hi => (last (i + 1) (by simpa using hi) (by omega)).symm]
      exact textRead_write_same _ _ wf
    | succ j =>
      exact ih w.advance _ (Window.advance_sound sound) written j (by simpa using hj)
        fun i hi later => last (i + 1) (by simpa using hi) (by omega)

theorem Window.iterate_sound {w : Window} (h : w.sound) (j : Nat) : (Window.advance^[j] w).sound := by
  induction j with
  | zero => exact h
  | succ j ih => rw [Function.iterate_succ_apply']; exact Window.advance_sound ih

theorem Window.iterate_column {w : Window} (h : w.sound) (j : Nat) : (Window.advance^[j] w).col < 20 := by
  obtain ⟨-, right, edge, -⟩ := Window.iterate_sound h j
  omega

/-- Two cells of the layer have two addresses. -/
theorem textAddr_ne {c r c' r' : Nat} (column : c < 20) (column' : c' < 20) (apart : c' ≠ c ∨ r' ≠ r) :
    textAddr c r ≠ textAddr c' r' := by
  unfold textAddr
  omega

/-- Settles O33: PUT_TEXT by its length and its window, and the counter by its direction. -/
theorem textWindows : Obligations.TextWindows := by
  unfold Obligations.TextWindows
  refine ⟨fun w h => ⟨Window.advance_sound h, w.advance_bounds, Window.advance_index_rowFirst h, Window.advance_index_columnFirst h⟩,
    fun p length chars s hs agrees => ?_⟩
  have put := exec_putText hs agrees
  refine ⟨fun long => ?_, fun short closed => ?_, fun w short opened => ?_⟩
  · rw [put, if_pos long]
  · rw [put, if_neg (by omega), State.take_eq_answered]
    unfold orderPutText; rw [closed]; rfl
  · refine ⟨(writeChars w s.sd.text chars).2, ?_, fun strip c r inside _ away => ?_, fun strip j hj last => ?_⟩
    · rw [put, if_neg (by omega), State.take_eq_answered]
      unfold orderPutText; rw [opened]
      dsimp only
      rw [writeChars_window]; rfl
    · have column := fun j => Window.iterate_column (strip.2 p w opened) j
      refine textRead_writeChars_other (textAddr c r) chars w s.sd.text fun j hj => ?_
      exact textAddr_ne inside (column j) (away j hj)
    · have column := fun j => Window.iterate_column (strip.2 p w opened) j
      have written := textRead_writeChars_last chars w s.sd.text (strip.2 p w opened) strip.1 j hj fun i hi later =>
        (textAddr_ne (column j) (column i) (last i hi later)).symm
      exact written

end Sys2Proof.Machine
end

section
/-! What a received sample set does, block by block: what SP notes of it (R4 to R9), what its judgement may write (R36), what the
filter and the trace do with it (R14, R15, R52). -/

namespace Sys2Proof.Machine

open Sys2Proof

/-! ### Notices that stay -/

/-- What is pending in `s` is pending in `t`. -/
def State.Notes (s t : State) : Prop :=
  ∀ q k, (s.ex.pending.get q).getLsbD k = true → (t.ex.pending.get q).getLsbD k = true

theorem State.Notes.refl (s : State) : s.Notes s := fun _ _ h => h

theorem State.Notes.trans {s t u : State} (h : s.Notes t) (k : t.Notes u) : s.Notes u := fun q n e => k q n (h q n e)

/-- From `s` to `t` an event of the sample's judgement writes no block but CT, WE, CU, the held pass, the abort count, the advisory
queue and the notices, and every notice that was pending stays pending (R36). -/
structure State.SampleKept (s t : State) : Prop where
  sp : t.sp = s.sp
  lm : t.lm = s.lm
  lt : t.lt = { s.lt with held := t.lt.held }
  lq : t.lq = { s.lq with counters.aborts := t.lq.counters.aborts }
  sd : t.sd = { s.sd with advisories := t.sd.advisories, holdTimer := t.sd.holdTimer, holdTime := t.sd.holdTime }
  ex : t.ex = { s.ex with pending := t.ex.pending }
  ports : t.ports = s.ports
  held : t.held = s.held
  choices : t.choices = s.choices
  pending : t.pending = s.pending
  notes : s.Notes t

section

variable {s : State}

theorem State.SampleKept.trans {t u : State} (h : s.SampleKept t) (k : t.SampleKept u) : s.SampleKept u where
  sp := k.sp.trans h.sp
  lm := k.lm.trans h.lm
  lt := by rw [k.lt, h.lt]
  lq := by rw [k.lq, h.lq]
  sd := by rw [k.sd, h.sd]
  ex := by rw [k.ex, h.ex]
  ports := k.ports.trans h.ports
  held := k.held.trans h.held
  choices := k.choices.trans h.choices
  pending := k.pending.trans h.pending
  notes := h.notes.trans k.notes

/-- A state that differs in CT, WE, CU and the held pass. -/
theorem State.SampleKept.of (c : Ct) (w : We) (u : Cu) (x : Option Pass) :
    s.SampleKept { s with ct := c, we := w, cu := u, lt.held := x } :=
  ⟨rfl, rfl, rfl, rfl, rfl, rfl, rfl, rfl, rfl, rfl, .refl _⟩

theorem State.SampleKept.refl : s.SampleKept s := State.SampleKept.of s.ct s.we s.cu s.lt.held

theorem State.sampleKept_calFail (o : CalOutcome) : s.SampleKept (s.calFail o) := by
  rw [State.calFail_eq]
  exact ⟨rfl, rfl, rfl, rfl, rfl, rfl, rfl, rfl, rfl, rfl, fun _ _ h => Ex.raisedBoth_keepsPending _ h⟩

theorem State.sampleKept_calDone (o : CalOutcome) : s.SampleKept (s.calDone o) := by
  rw [State.calDone_eq]
  exact ⟨rfl, rfl, rfl, rfl, rfl, rfl, rfl, rfl, rfl, rfl, fun _ _ h => Ex.raisedBoth_keepsPending _ h⟩

theorem State.sampleKept_queueAdvisory (x : Advisory) : s.SampleKept (s.queueAdvisory x) := by
  rw [State.queueAdvisory_eq]
  exact ⟨rfl, rfl, rfl, rfl, rfl, rfl, rfl, rfl, rfl, rfl, .refl _⟩

theorem State.sampleKept_abandonCal (c : CalCause) : s.SampleKept (s.abandonCal c) := by
  unfold State.abandonCal
  split_ifs
  · exact .refl
  · exact (State.SampleKept.of s.ct s.we s.calIdle.cu s.lt.held).trans (State.sampleKept_calFail _)

theorem State.sampleKept_applyWeigh (r : WeighRec) : s.SampleKept (s.applyWeigh r) := by
  unfold State.applyWeigh
  dsimp only
  have applied := State.SampleKept.of (s := s) s.ct { s.we with weigh := r, pendingWeigh := none } s.cu s.lt.held
  split_ifs
  · exact applied
  · rw [State.geometryChange_eq]
    exact (State.SampleKept.of s.ct { s.we with weigh := r, pendingWeigh := none } { s.cu with table := s.cu.table.staled }
      s.lt.held).trans (State.sampleKept_abandonCal _)

theorem State.sampleKept_lowEntry : s.SampleKept s.lowEntry := by
  rw [State.lowEntry_eq]
  exact (State.SampleKept.of s.ct.lowEntered s.we s.cu s.lt.held).trans (State.sampleKept_applyWeigh _)

theorem State.sampleKept_abortWeigh (c : AbortCause) : s.SampleKept (s.abortWeigh c) := by
  rw [State.abortWeigh_eq]
  refine ⟨rfl, rfl, rfl, rfl, ?_, rfl, rfl, rfl, rfl, rfl, fun _ _ h => Ex.raisedBoth_keepsPending _ h⟩
  dsimp only
  split_ifs <;> rfl

theorem State.sampleKept_tareResult (q : Nat) : s.SampleKept (s.tareResult q) := by
  unfold State.tareResult
  dsimp only
  split_ifs
  · exact (State.SampleKept.of s.ct s.we s.calIdle.cu s.lt.held).trans (State.sampleKept_calFail _)
  · exact (State.SampleKept.of s.ct s.we { s.cu with cal := .tareArmed, scratchTare := none } s.lt.held).trans
      (State.sampleKept_calFail _)
  · exact (State.SampleKept.of s.ct s.we { s.cu with
      cal := .loadedWait, scratchTare := some s.we.meanForces
      outcome := some (liftOutcome .tare .stepDone none q s.we.marks) } s.lt.held).trans (State.sampleKept_queueAdvisory _)

theorem State.sampleKept_loadedResult (q : Nat) : s.SampleKept (s.loadedResult q) := by
  unfold State.loadedResult State.commitTable
  dsimp only
  split_ifs
  · exact (State.SampleKept.of s.ct s.we { s.cu with cal := .loadedWait, scratchMref := none } s.lt.held).trans
      (State.sampleKept_calFail _)
  · exact (State.SampleKept.of s.ct s.we { s.cu with cal := .loadedArmed } s.lt.held).trans (State.sampleKept_calFail _)
  · split
    · exact (State.SampleKept.of s.ct s.we { s.cu with cal := .loadedWait, scratchLoaded := none, scratchMref := none }
        s.lt.held).trans (State.sampleKept_calFail _)
    · exact (State.SampleKept.of s.ct s.we _ s.lt.held).trans (State.sampleKept_calDone _)

theorem State.sampleKept_zeroResult (m : Int) (q : Nat) : s.SampleKept (s.zeroResult m q) := by
  unfold State.zeroResult
  dsimp only
  split_ifs
  · exact (State.SampleKept.of s.ct { s.we with zt := m } s.calIdle.cu s.lt.held).trans (State.sampleKept_calDone _)
  · exact (State.SampleKept.of s.ct s.we s.calIdle.cu s.lt.held).trans (State.sampleKept_calFail _)

theorem State.sampleKept_completeWindow : s.SampleKept s.completeWindow := by
  unfold State.completeWindow
  dsimp only
  have closed := State.SampleKept.of (s := s) s.ct { s.we with windowOpen := false } s.cu s.lt.held
  split_ifs
  · exact State.sampleKept_abortWeigh _
  · cases s.cu.cal with
    | idle => dsimp only; rw [State.acceptPass_eq]; exact .of s.ct { s.we with windowOpen := false } s.cu _
    | tareLift => exact closed.trans (State.sampleKept_tareResult _)
    | loadedLift => exact closed.trans (State.sampleKept_loadedResult _)
    | zeroLift => exact closed.trans (State.sampleKept_zeroResult _ _)
    | _ => exact .of s.ct s.we.discardWindow s.cu s.lt.held

theorem State.sampleKept_judgeSample (theta phi : Int) : s.SampleKept (s.judgeSample theta phi) := by
  have tracked : ∀ c : Ct, s.SampleKept { s with ct := c } := fun c => .of c s.we s.cu s.lt.held
  have up : s.SampleKept (s.takeUpBoom theta) := by
    unfold State.takeUpBoom
    split_ifs
    · exact State.sampleKept_lowEntry
    · exact tracked _
  have carried : s.SampleKept (s.judgeCarried theta phi) := by
    unfold State.judgeCarried
    split_ifs
    · exact State.sampleKept_lowEntry
    · exact tracked _
  unfold State.judgeSample
  cases s.ct.tracker with
  | stopped => exact .refl
  | sensorWait => exact up
  | parked =>
    dsimp only
    split_ifs
    · exact .refl
    · exact up
  | low =>
    dsimp only
    unfold State.judgeLow
    split_ifs
    · exact .of _ _ s.cu s.lt.held
    · exact .refl
  | lifting =>
    dsimp only
    unfold State.judgeLifting
    split_ifs
    · exact State.sampleKept_lowEntry
    · exact .of _ _ _ s.lt.held
    · exact tracked _
    · exact .refl
  | weighing =>
    unfold State.judgeWeighing
    dsimp only
    split_ifs
    · exact (tracked _).trans State.sampleKept_completeWindow
    · exact (State.sampleKept_abortWeigh .lowered).trans (.of _ _ _ _)
    · exact tracked _
  | raised => exact carried
  | returning => exact carried
  | dumping =>
    dsimp only
    unfold State.judgeDumping
    split_ifs
    · exact tracked _
    · exact .refl

end

end Sys2Proof.Machine
end

section
/-! A received sample set from its frame to its trace entry: the angles that SP uses, the sample handed on, the filter, and the trace
(R4 to R16, R52). -/

namespace Sys2Proof.Machine

open Sys2Proof

theorem clampInt_eq {lo hi : Int} (h : lo ≤ hi) (x : Int) : clampInt lo hi x = min hi (max lo x) := by
  unfold clampInt
  split_ifs <;> omega

section

variable {x : SampleSet} {s : State} {theta : Int} {bits : List Bool}

/-! ### What SP uses of a set (R5 to R8) -/

theorem channels_theta (x : SampleSet) :
    x.channels.theta = if x.faults.getLsbD 2 then none else some (min 700 (max (-600) x.theta)) := by
  simp only [SampleSet.channels, clampAngle, clampInt_eq (show (-600 : Int) ≤ 700 by decide)]

theorem channels_phi (x : SampleSet) :
    x.channels.phi = if x.faults.getLsbD 3 then none else some (min 900 (max (-900) x.phi)) := by
  simp only [SampleSet.channels, clampAngle, clampInt_eq (show (-900 : Int) ≤ 900 by decide)]

theorem channels_psi (x : SampleSet) :
    x.channels.psi = if x.faults.getLsbD 4 then none else some (min 350 (max (-350) x.psi)) := by
  simp only [SampleSet.channels, clampAngle, clampInt_eq (show (-350 : Int) ≤ 350 by decide)]

theorem channels_ph (x : SampleSet) : x.channels.ph = if x.faults.getLsbD 0 then none else some (min 45000 x.ph) := rfl

theorem channels_pr (x : SampleSet) : x.channels.pr = if x.faults.getLsbD 1 then none else some (min 45000 x.pr) := rfl

theorem usedTheta_eq (x : SampleSet) (s : State) : s.sp.usedTheta x.channels.theta = s.thetaUsed x := by
  rw [channels_theta]
  unfold Sp.usedTheta State.thetaUsed satAdd
  by_cases faulted : x.faults.getLsbD 2 = true
  · simp only [if_pos faulted]
    exact if_congr (by omega) rfl rfl
  · simp only [if_neg faulted]

theorem usedPhi_eq (x : SampleSet) (s : State) : usedAngle s.sp.lastPhi x.channels.phi = s.phiUsed x := by
  rw [channels_phi]
  unfold State.phiUsed
  by_cases faulted : x.faults.getLsbD 3 = true
  · simp only [if_pos faulted]; rfl
  · simp only [if_neg faulted]; rfl

theorem usedPsi_eq (x : SampleSet) (s : State) : usedAngle s.sp.lastPsi x.channels.psi = s.psiUsed x := by
  rw [channels_psi]
  unfold State.psiUsed
  by_cases faulted : x.faults.getLsbD 4 = true
  · simp only [if_pos faulted]; rfl
  · simp only [if_neg faulted]; rfl

/-! ### What SP notes of a set (R4, R7 to R9) -/

/-- SP once the sequence and the angles of a set are taken. -/
def Sp.taken (x : SampleSet) (p : Sp) : Sp :=
  ((p.takeSeq x.seq).takeTheta x.channels.theta).takeTiltPitch x.channels.phi x.channels.psi

theorem noteSet_eq (x : SampleSet) (s : State) : s.noteSet x = State.judgeFaults x.anyFault { s with sp := s.sp.taken x } := rfl

/-- SP keeps its notes of a set, and what was pending stays pending. -/
theorem noteSet_notes (x : SampleSet) (s : State) :
    ∃ f n e, s.noteSet x = { s with sp := { s.sp.taken x with sensorFault := f, cleanRun := n }, ex.pending := e }
      ∧ s.Notes (s.noteSet x) := by
  obtain ⟨f, n, e, noted⟩ := State.judgeFaults_frame x.anyFault { s with sp := s.sp.taken x }
  refine ⟨f, n, e, noted, ?_⟩
  rw [noteSet_eq]
  unfold State.judgeFaults
  dsimp only
  intro q k h
  split_ifs
  · exact h
  · rw [State.raiseBoth_eq]; exact Ex.raisedBoth_keepsPending (x := s.ex) _ h
  · exact h
  · exact h

/-! ### The trace (R14 to R16) -/

theorem raise_notes (p : Port) (k : Notice) (s : State) : s.Notes (s.raise p k) := fun q n h => by
  rw [show (s.raise p k).ex.pending = s.ex.pending.set p (s.ex.pending.get p ||| k.mask) from rfl, PerPort.get_set]
  split_ifs with own
  · rw [← own]; exact getLsbD_or_of_left h _
  · exact h

theorem raise_isPending (p : Port) (k : Notice) (s : State) : ((s.raise p k).ex.pending.get p).getLsbD k.priority = true := by
  rw [show (s.raise p k).ex.pending = s.ex.pending.set p (s.ex.pending.get p ||| k.mask) from rfl, PerPort.get_set_same]
  exact k.getLsbD_or_mask _

theorem announceHalf_notes (n : Nat) (s : State) : s.Notes (s.announceHalf n) := by
  unfold State.announceHalf
  intro q k h
  cases s.sp.trace.owner with
  | none => exact h
  | some p =>
    dsimp only
    split_ifs
    · exact raise_notes p _ s q k h
    · exact h

/-- The trace once the entry `e` of a received set is recorded, `before` being the tracker state before the set (R14, R15). -/
def Trace.recorded (before : Tracker) (e : TraceEntry) (t : Trace) : Trace :=
  match t.mode with
  | .off => t
  | .ring => t.appended e
  | .lift .waiting =>
    if e.tracker = .lifting ∧ before ≠ .lifting then
      { t.appended e with mode := .lift (phaseAfter false (t.appended e).entries.length) }
    else t
  | .lift .recording =>
    { t.appended e with
      mode := .lift (phaseAfter (decide (before = .weighing ∧ e.tracker ≠ .weighing)) (t.appended e).entries.length) }
  | .lift .done => t

/-- An entry is appended; the 64th is announced to the owner, and no notice is lost. -/
theorem appendTrace_notes (e : TraceEntry) (s : State) :
    s.Notes (s.appendTrace e)
      ∧ ∀ p, s.sp.trace.entries.length = 63 → s.sp.trace.owner = some p →
        ((s.appendTrace e).ex.pending.get p).getLsbD 14 = true := by
  unfold State.appendTrace
  dsimp only
  split_ifs with room
  · refine ⟨announceHalf_notes (s := { s with sp.trace.entries := s.sp.trace.entries ++ [e] }) _, fun p length owner => ?_⟩
    unfold State.announceHalf
    simp only [owner, length, List.length_append, List.length_singleton, Nat.reduceAdd, and_self, if_true]
    exact raise_isPending p .traceHalf _
  · refine ⟨.refl _, fun p length _ => absurd ?_ room⟩
    rw [length]; decide

theorem recordSet_eq (before : Tracker) (e : TraceEntry) (s : State) :
    ∃ n, s.recordSet before e = { s with sp.trace := s.sp.trace.recorded before e, ex.pending := n }
      ∧ s.Notes (s.recordSet before e)
      ∧ ∀ p, s.sp.trace.mode = .ring ∨ s.sp.trace.mode = .lift .recording → s.sp.trace.entries.length = 63 →
        s.sp.trace.owner = some p → (n.get p).getLsbD 14 = true := by
  obtain ⟨n, appended⟩ := State.appendTrace_trace e s
  obtain ⟨notes, half⟩ := appendTrace_notes e s
  rw [appended] at notes half
  unfold State.recordSet Trace.recorded
  rw [appended]
  cases mode : s.sp.trace.mode with
  | off => exact ⟨s.ex.pending, rfl, .refl s, by simp⟩
  | ring => exact ⟨n, rfl, notes, fun p _ => half p⟩
  | lift phase =>
    cases phase with
    | waiting =>
      dsimp only
      split_ifs
      · exact ⟨n, rfl, notes, by simp⟩
      · exact ⟨s.ex.pending, rfl, .refl s, by simp⟩
    | recording => exact ⟨n, rfl, notes, fun p _ => half p⟩
    | done => exact ⟨s.ex.pending, rfl, .refl s, by simp⟩

/-! ### The sample handed on (R11, R12) -/

/-- SP once an accepted sample is handed on. -/
def Sp.handed (x : Sample) (p : Sp) : Sp :=
  { p with lossTimer := .started, liveTheta := some x.theta, livePhi := some x.phi, livePsi := some x.psi }

/-- From the state `u` in which CT has judged a sample to the end of its frame the filter and the window take it, and the trace records
it; what was pending stays pending. -/
structure State.SampleEnds (filter : Nat) (x : Sample) (u t : State) : Prop where
  ct : t.ct = u.ct
  we : t.we = (u.weighSample filter x).we
  cu : t.cu = u.cu
  lt : t.lt = u.lt
  lq : t.lq = u.lq
  sd : t.sd = u.sd
  lm : t.lm = u.lm
  sp : t.sp = { u.sp with trace := t.sp.trace }
  ex : t.ex = { u.ex with pending := t.ex.pending }
  ports : t.ports = u.ports
  held : t.held = u.held
  choices : t.choices = u.choices
  pending : t.pending = u.pending
  notes : u.Notes t

/-- What an accepted sample set does: SP's notes, the judgement of the sample in the tracker state it finds, and then the filter and the
trace (R4 to R15). -/
theorem exec_goodSample (h : goodSample bits x theta s) :
    ∃ f n e t, exec (.receivedSampleSet bits) s = .next t
      ∧ s.Notes { s with ex.pending := e }
      ∧ (s.noteSet x = { s with sp := { s.sp.taken x with sensorFault := f, cleanRun := n }, ex.pending := e })
      ∧ State.SampleEnds s.we.weigh.filter (s.sampleOf x theta)
          (State.judgeSample theta (s.phiUsed x)
            { s with
              sp := { s.sp.taken x with sensorFault := f, cleanRun := n }.handed (s.sampleOf x theta), ex.pending := e }) t := by
  obtain ⟨awake, running, set, used⟩ := h
  obtain ⟨f, n, e, noted, notes⟩ := noteSet_notes x s
  have taken : s.receiveFrame bits = s.receiveSet x := by
    unfold State.receiveFrame; rw [running, set]
  have passed : s.passOn x = State.weighSample s.we.weigh.filter (s.sampleOf x theta) (State.judgeSample theta (s.phiUsed x)
      { s with sp := { s.sp.taken x with sensorFault := f, cleanRun := n }.handed (s.sampleOf x theta), ex.pending := e }) := by
    unfold State.passOn
    rw [usedTheta_eq, used, noted, ← usedPhi_eq]; rfl
  obtain ⟨p, recorded, kept, -⟩ := recordSet_eq s.ct.tracker (s.entryOf x (s.passOn x).ct.tracker) (s.passOn x)
  refine ⟨f, n, e, s.receiveFrame bits, live_not_held _ awake, ?_, noted, ?_⟩
  · rw [noted] at notes; exact notes
  · rw [taken, show s.receiveSet x = (s.passOn x).recordSet s.ct.tracker (s.entryOf x (s.passOn x).ct.tracker) from rfl]
    rw [passed] at recorded kept ⊢
    rw [recorded] at kept ⊢
    exact ⟨rfl, rfl, rfl, rfl, rfl, rfl, rfl, rfl, rfl, rfl, rfl, rfl, rfl, kept⟩

/-- A set that is not accepted is noted and recorded, and reaches neither CT nor WE (R7, R11). -/
theorem exec_unusedSample (awake : s.held = false) (running : s.sp.sampling = .running) (set : sampleSetOf bits = some x)
    (unused : s.thetaUsed x = none) :
    ∃ f n e t, exec (.receivedSampleSet bits) s = .next t
      ∧ (s.noteSet x = { s with sp := { s.sp.taken x with sensorFault := f, cleanRun := n }, ex.pending := e })
      ∧ t = { s with
          sp := { s.sp.taken x with sensorFault := f, cleanRun := n, trace := t.sp.trace }, ex.pending := t.ex.pending }
      ∧ State.Notes (s.noteSet x) t := by
  obtain ⟨f, n, e, noted, notes⟩ := noteSet_notes x s
  have taken : s.receiveFrame bits = s.receiveSet x := by
    unfold State.receiveFrame; rw [running, set]
  have passed : s.passOn x = s.noteSet x := by
    unfold State.passOn; rw [usedTheta_eq, unused]
  obtain ⟨p, recorded, kept, -⟩ := recordSet_eq s.ct.tracker (s.entryOf x (s.passOn x).ct.tracker) (s.passOn x)
  refine ⟨f, n, e, s.receiveFrame bits, live_not_held _ awake, noted, ?_, ?_⟩
  · rw [taken, show s.receiveSet x = (s.passOn x).recordSet s.ct.tracker (s.entryOf x (s.passOn x).ct.tracker) from rfl, recorded,
      passed, noted]
  · rw [taken, show s.receiveSet x = (s.passOn x).recordSet s.ct.tracker (s.entryOf x (s.passOn x).ct.tracker) from rfl]
    rw [← passed]; exact kept

end

end Sys2Proof.Machine
end

section
/-! Frames and the raw force, what a set leaves in SP, and the Sample Trace Buffer (R1 to R16). -/

namespace Sys2Proof.Machine

open Sys2Proof

/-! ### Frames (R1, R3) -/

/-- The bits of a byte, most significant first. -/
def msbFirst (b : Byte) : List Bool := (List.range 8).map fun k => b.getLsbD (7 - k)

theorem bytesOfBits_msbFirst (bs : List Byte) : bytesOfBits (bs.flatMap msbFirst) = some bs := by
  induction bs with
  | nil => rfl
  | cons b bs ih =>
    show (bytesOfBits (bs.flatMap msbFirst)).map (fun rest => byteMsbFirst (msbFirst b) :: rest) = _
    rw [ih, show byteMsbFirst (msbFirst b) = b from byteMsbFirst_bits b]
    rfl

theorem length_of_bytesOfBits (bits : List Bool) : ∀ bs, bytesOfBits bits = some bs → bits.length = 8 * bs.length := by
  induction bits using bytesOfBits.induct with
  | case1 => rintro _ ⟨⟩; rfl
  | case2 b7 b6 b5 b4 b3 b2 b1 b0 rest ih =>
    intro bs h
    obtain ⟨tail, parsed, rfl⟩ := Option.map_eq_some_iff.1 h
    simp only [List.length_cons, ih tail parsed]
    omega
  | case3 bits empty whole =>
    intro bs h
    unfold bytesOfBits at h
    split at h
    · exact absurd rfl empty
    · exact absurd rfl (whole _ _ _ _ _ _ _ _ _)
    · cases h

theorem sampleSetOf_short {bits : List Bool} (h : bits.length ≠ 96) : sampleSetOf bits = none := by
  unfold sampleSetOf
  cases parsed : bytesOfBits bits with
  | none => rfl
  | some bs =>
    have length := length_of_bytesOfBits bits bs parsed
    exact if_neg (by omega)

theorem toNat_append_bytes (high low : Byte) : (high ++ low : BitVec 16).toNat = 256 * high.toNat + low.toNat := by
  rw [BitVec.toNat_append, Nat.shiftLeft_eq, Nat.mul_comm high.toNat]
  exact (Nat.two_pow_add_eq_or_of_lt low.isLt high.toNat).symm

/-- Settles O6: frames by their length, and the parse of the twelve bytes. -/
theorem sampleFrames : Obligations.SampleFrames := by
  unfold Obligations.SampleFrames
  refine ⟨fun bits s awake => ?_, fun b => ?_⟩
  · have frame : exec (.receivedSampleSet bits) s = .next (s.receiveFrame bits) := live_not_held _ awake
    rw [frame]
    unfold State.receiveFrame
    refine ⟨fun stopped => by rw [stopped], fun running length => ?_⟩
    rw [running, sampleSetOf_short length]; rfl
  · unfold sampleSetOf
    rw [show (List.ofFn b).flatMap (fun x => (List.range 8).map fun k => x.getLsbD (7 - k)) = (List.ofFn b).flatMap msbFirst from rfl,
      bytesOfBits_msbFirst]
    refine (if_pos (by simp)).trans (congrArg some ?_)
    simp only [SampleSet.mk.injEq]
    exact ⟨rfl, rfl, toNat_append_bytes _ _, toNat_append_bytes _ _, rfl, rfl, rfl⟩

/-! ### The raw force (R6, R10) -/

theorem rawForce_eq (w : WeighRec) (x : SampleSet) :
    rawForce w x.channels =
      if x.faults.getLsbD 0 || x.faults.getLsbD 1 then none
      else some (w.nCyl * ((min 45000 x.ph : Nat) * w.aHead - (min 45000 x.pr : Nat) * w.aRod)) := by
  unfold rawForce
  rw [channels_ph, channels_pr]
  cases x.faults.getLsbD 0 <;> cases x.faults.getLsbD 1 <;> rfl

/-- The areas and the cylinders of a record that R73 accepts. -/
theorem cylinders_of_passes {w : WeighRec} {cs : List CycleRec} (h : weighFirstBad w cs = none) :
    1 ≤ w.nCyl ∧ w.nCyl ≤ 2 ∧ w.aHead ≤ 2000 ∧ 50 ≤ w.aRod ∧ w.aRod ≤ w.aHead - 1 := by
  simp only [weighFirstBad, firstFailing_eq_none, List.forall_mem_cons, inRange_iff] at h
  obtain ⟨cylinders, head, rod, -⟩ := h
  exact ⟨cylinders.1, cylinders.2, head.2, rod.1, rod.2⟩

theorem mul_bounds {a b m n : Int} (ha : 0 ≤ a) (hb : 0 ≤ b) (am : a ≤ m) (bn : b ≤ n) : 0 ≤ a * b ∧ a * b ≤ m * n :=
  ⟨mul_nonneg ha hb, mul_le_mul am bn hb (ha.trans am)⟩

/-- Settles O8: the formula by the faulted channels, and the range from the bounds on the record and on the pressures. -/
theorem rawForce_eq_and_range : Obligations.RawForce := by
  unfold Obligations.RawForce
  refine ⟨rawForce_eq, fun w cs x f passes force => ?_⟩
  obtain ⟨one, two, head, rod, less⟩ := cylinders_of_passes passes
  rw [rawForce_eq] at force
  split_ifs at force
  obtain rfl := Option.some.inj force
  have headForce := mul_bounds (a := ((min 45000 x.ph : Nat) : Int)) (b := w.aHead) (m := 45000) (n := 2000) (by omega) (by omega)
    (by omega) head
  have rodForce := mul_bounds (a := ((min 45000 x.pr : Nat) : Int)) (b := w.aRod) (m := 45000) (n := 1999) (by omega) (by omega)
    (by omega) (by omega)
  generalize ((min 45000 x.ph : Nat) : Int) * w.aHead = pushed at *
  generalize ((min 45000 x.pr : Nat) : Int) * w.aRod = pulled at *
  rcases (show w.nCyl = 1 ∨ w.nCyl = 2 by omega) with n | n <;> rw [n] <;> omega

/-! ### TRACE_ARM and TRACE_READ (R13, R16) -/

section

variable {p : Port} {b : Byte} {s : State}

theorem traceModeOf_high (high : 2 < b.toNat) : traceModeOf b = none := by
  obtain ⟨n, above⟩ : ∃ n, b.toNat = n + 3 := ⟨b.toNat - 3, by omega⟩
  unfold traceModeOf
  rw [above]; rfl

theorem traceModeOf_low (low : b.toNat ≤ 2) : ∃ m, traceModeOf b = some m := by
  unfold traceModeOf
  rcases (show b.toNat = 0 ∨ b.toNat = 1 ∨ b.toNat = 2 by omega) with e | e | e <;> rw [e] <;> exact ⟨_, rfl⟩

theorem traceArm_free {m : TraceMode} (mode : traceModeOf b = some m) (free : s.sp.trace.owner ≠ some (other p) ∨ s.sp.trace.mode = .off) :
    orderTraceArm p b s = if m = .off ∧ s.sp.trace.owner = some p then Answer.done { s with sp.trace.mode := .off }
      else Answer.done { s with sp.trace := ⟨[], some p, m, 0⟩ } := by
  unfold orderTraceArm
  rw [mode]
  exact if_neg fun busy => free.elim (fun h => h busy.1) busy.2

theorem traceRead_owner (from1 : 1 ≤ b.toNat) (to8 : b.toNat ≤ 8) (owner : s.sp.trace.owner = some p) :
    orderTraceRead p b s =
      ⟨{ s with sp.trace.entries := s.sp.trace.entries.drop b.toNat }, if s.sp.trace.entries = [] then .empty else .ok,
        traceBytes (s.sp.trace.entries.take b.toNat) s.sp.trace⟩ := by
  unfold orderTraceRead
  rw [if_neg (by simp [natInRange_iff, from1, to8]), if_neg (by simp [owner])]
  dsimp only
  by_cases empty : s.sp.trace.entries = []
  · have same : ({ s with sp.trace.entries := s.sp.trace.entries.drop b.toNat } : State) = s := by
      rw [empty, List.drop_nil, ← empty]
    rw [same, if_pos (by simp [empty]), if_pos empty]
  · rw [if_neg, if_neg empty]
    rw [List.isEmpty_iff, List.take_eq_nil_iff]
    rintro (zero | none)
    · omega
    · exact empty none

theorem traceEntry_bytes (e : TraceEntry) :
    e.bytes = [e.seq, e.faults] ++ optField 2 u16 e.ph ++ optField 2 u16 e.pr ++ i16 (e.theta.getD 0) ++ i16 e.phi ++ i16 e.psi
      ++ [e.marksCode] ++ optField 4 i32 e.fRaw ++ [e.tracker.code] := rfl

theorem marksCode_getLsbD (e : TraceEntry) (k : Nat) : e.marksCode.getLsbD k =
    match k with
    | 0 => e.marks.clipped
    | 1 => e.marks.held
    | 2 => e.marks.gap
    | 3 => decide (e.theta = none)
    | _ => false := by
  unfold TraceEntry.marksCode
  rw [byteOfFlags_getLsbD (by simp)]
  rcases k with _ | _ | _ | _ | _ | k
  · rfl
  · rfl
  · rfl
  · cases e.theta <;> rfl
  · rfl
  · rfl

/-! ### The append (R14, R15) -/

theorem entryOf_recorded (x : SampleSet) (after : Tracker) (s : State) : s.recorded x after (s.entryOf x after) :=
  ⟨rfl, rfl, rfl, rfl, usedTheta_eq x s, usedPhi_eq x s, usedPsi_eq x s, rfl, rfl, rfl⟩

/-- A received set leaves the trace as it was until it is recorded. -/
theorem passOn_trace (x : SampleSet) (s : State) : (s.passOn x).sp.trace = s.sp.trace := by
  obtain ⟨f, n, e, noted, -⟩ := noteSet_notes x s
  have kept : ((s.sp.taken x).trace = s.sp.trace) := by
    unfold Sp.taken Sp.takeTheta
    cases x.channels.theta <;> rfl
  unfold State.passOn
  rw [noted]
  cases s.sp.usedTheta x.channels.theta with
  | none => exact kept
  | some theta =>
    have judged := State.sampleKept_judgeSample (s := { s with
      sp := { s.sp.taken x with sensorFault := f, cleanRun := n }.handed (s.sampleOf x theta), ex.pending := e })
      (s.sampleOf x theta).theta (s.sampleOf x theta).phi
    exact (congrArg Sp.trace judged.sp).trans kept

/-- A set that is received: SP and CT are done with it, and it is recorded. -/
theorem exec_received {bits : List Bool} {x : SampleSet} (awake : s.held = false) (running : s.sp.sampling = .running)
    (set : sampleSetOf bits = some x) :
    exec (.receivedSampleSet bits) s = .next ((s.passOn x).recordSet s.ct.tracker (s.entryOf x (s.passOn x).ct.tracker)) := by
  refine (live_not_held _ awake).trans (congrArg _ ?_)
  unfold State.receiveFrame
  rw [running, set]; rfl

/-- Settles O10: the two orders by their operand and the owner, the entry's bytes, and the append by the mode. -/
theorem traceBuffer : Obligations.TraceBuffer := by
  unfold Obligations.TraceBuffer
  intro p b s
  refine ⟨fun hs => ?orders, fun e => ⟨?length, e.marksCode, rfl, marksCode_getLsbD e⟩, fun bits x awake running set => ?append⟩
  case length =>
    rw [traceEntry_bytes]; simp
  case append =>
    obtain ⟨n, recorded, -, half⟩ := recordSet_eq s.ct.tracker (s.entryOf x (s.passOn x).ct.tracker) (s.passOn x)
    rw [passOn_trace] at recorded half
    refine ⟨_, s.entryOf x (s.passOn x).ct.tracker, exec_received awake running set, ?_⟩
    rw [recorded]
    refine ⟨entryOf_recorded x _ s, fun ring => ?_, fun waiting empty => ?_, fun recording room => ?_, fun idle => ?_,
      fun mode length owner => half p mode length owner⟩
    · show Trace.recorded _ _ _ = _
      unfold Trace.recorded
      rw [ring]; rfl
    · show Trace.recorded _ _ _ = _
      unfold Trace.recorded
      rw [waiting]
      refine if_congr Iff.rfl ?_ rfl
      simp [Trace.appended, empty, phaseAfter, traceCapacity]
    · show Trace.recorded _ _ _ = _
      unfold Trace.recorded
      rw [recording]
      have full : 128 ≤ s.sp.trace.entries.length + 1 ↔ s.sp.trace.entries.length = 127 := by omega
      simp only [Trace.appended, if_pos room, phaseAfter, traceCapacity, List.length_append, List.length_singleton, Bool.or_eq_true,
        decide_eq_true_eq, full]
      rfl
    · show Trace.recorded _ _ _ = _
      unfold Trace.recorded
      rcases idle with off | done
      · rw [off]
      · rw [done]
  case orders =>
    have arm : exec (.traceArm p b) s = _ := live_takeOrder_ready hs (orderTraceArm p b)
    have read : exec (.traceRead p b) s = _ := live_takeOrder_ready hs (orderTraceRead p b)
    refine ⟨fun high => ?_, fun low other running => ?_, fun free => ⟨?_, ?_, ?_, ?_⟩, fun outside => ?_, fun from1 to8 owner => ?_,
      fun from1 to8 owner => ?_⟩
    · rw [arm]; unfold orderTraceArm; rw [traceModeOf_high high]; rfl
    · obtain ⟨m, mode⟩ := traceModeOf_low low
      rw [arm]; unfold orderTraceArm; rw [mode]
      dsimp only
      rw [if_pos ⟨other, running⟩]; rfl
    · rintro rfl owner
      rw [arm, traceArm_free rfl free, if_pos ⟨rfl, owner⟩]; rfl
    · rintro rfl owner
      rw [arm, traceArm_free rfl free, if_neg (fun h => owner h.2)]; rfl
    · rintro rfl
      rw [arm, traceArm_free rfl free, if_neg (fun h => by cases h.1)]; rfl
    · rintro rfl
      rw [arm, traceArm_free rfl free, if_neg (fun h => by cases h.1)]; rfl
    · rw [read]; unfold orderTraceRead
      rw [if_pos (by simpa [natInRange, Nat.lt_one_iff] using outside)]; rfl
    · rw [read]; unfold orderTraceRead
      rw [if_neg (by simp [natInRange_iff, from1, to8]), if_pos owner]; rfl
    · rw [read, traceRead_owner from1 to8 owner]
      unfold traceBytes phaseField
      cases s.sp.trace.mode <;> rfl

end

end Sys2Proof.Machine
end

section
/-! The books that SP keeps of the sets it receives, and the marks of a set (R4 to R9). -/

namespace Sys2Proof.Machine

open Sys2Proof

section

variable {x : SampleSet} {s : State} {bits : List Bool}

/-! ### What SP notes (R4, R7 to R9) -/

theorem anyFault_iff (x : SampleSet) : x.anyFault = true ↔ x.faults &&& 0x1F ≠ 0 := by simp [SampleSet.anyFault]

theorem gapBefore_iff (p : Sp) (seq : Byte) : p.gapBefore seq = true ↔ ∃ e, p.seqExpect = some e ∧ e ≠ seq := by
  unfold Sp.gapBefore
  cases p.seqExpect <;> simp

/-- SP once the sequence and the angles of a set are taken, field by field. -/
theorem taken_eq (x : SampleSet) (p : Sp) : p.taken x = { p with
    seqExpect := some (x.seq + 1)
    gapCount := if p.seqExpect = none ∨ p.seqExpect = some x.seq then p.gapCount else min 65535 (p.gapCount + 1)
    lastTheta := if x.faults.getLsbD 2 then p.lastTheta else some (min 700 (max (-600) x.theta))
    heldAngle := if x.faults.getLsbD 2 then min 4 (p.heldAngle + 1) else 0
    lastPhi := if x.faults.getLsbD 3 then p.lastPhi else some (min 900 (max (-900) x.phi))
    lastPsi := if x.faults.getLsbD 4 then p.lastPsi else some (min 350 (max (-350) x.psi)) } := by
  have gap : (if p.gapBefore x.seq = true then satAdd top16 p.gapCount 1 else p.gapCount)
      = if p.seqExpect = none ∨ p.seqExpect = some x.seq then p.gapCount else min 65535 (p.gapCount + 1) := by
    unfold Sp.gapBefore
    cases p.seqExpect with
    | none => rfl
    | some e => by_cases same : e = x.seq <;> simp [same, satAdd, top16]
  unfold Sp.taken Sp.takeSeq Sp.takeTheta Sp.takeTiltPitch
  rw [gap, channels_theta, channels_phi, channels_psi]
  cases x.faults.getLsbD 2 <;> cases x.faults.getLsbD 3 <;> cases x.faults.getLsbD 4 <;> rfl

/-- The sensor fault status and its clean-run count, and SENSOR_FAULT at its onset (R9). -/
theorem noteSet_faults (x : SampleSet) (s : State) :
    s.noteSet x = { s with
      sp := { s.sp.taken x with
        sensorFault := if x.anyFault then true else s.sp.sensorFault && decide (s.sp.cleanRun + 1 < 10)
        cleanRun := if x.anyFault then 0 else if s.sp.sensorFault then min 10 (s.sp.cleanRun + 1) else 0 }
      ex := if x.anyFault = true ∧ s.sp.sensorFault = false then s.ex.raisedBoth .sensorFault else s.ex } := by
  rw [noteSet_eq, taken_eq]
  unfold State.judgeFaults
  cases x.anyFault <;> cases fault : s.sp.sensorFault
  · simp
  · simp [satAdd, cleanRunNeeded]; omega
  · simp [State.raiseBoth_eq]
  · simp

/-! ### A set, accepted or not (R7, R11, R12) -/

/-- What a received set changes in SP, and the blocks that no set touches. -/
theorem exec_set (awake : s.held = false) (running : s.sp.sampling = .running) (set : sampleSetOf bits = some x) :
    ∃ t, exec (.receivedSampleSet bits) s = .next t
      ∧ t.sp = { (s.noteSet x).sp with
          lossTimer := t.sp.lossTimer, liveTheta := t.sp.liveTheta, livePhi := t.sp.livePhi, livePsi := t.sp.livePsi
          trace := t.sp.trace }
      ∧ (s.noteSet x).Notes t ∧ s.restKept t ∧ t.lt = { s.lt with held := t.lt.held }
      ∧ t.lq = { s.lq with counters.aborts := t.lq.counters.aborts }
      ∧ (s.thetaUsed x = none → t.ct = s.ct ∧ t.we = s.we ∧ t.cu = s.cu ∧ t.lt = s.lt ∧ t.lq = s.lq ∧ t.sd = s.sd
        ∧ t.sp.lossTimer = s.sp.lossTimer ∧ t.sp.liveTheta = s.sp.liveTheta)
      ∧ ∀ theta, s.thetaUsed x = some theta → t.sp.lossTimer = .started ∧ t.sp.liveTheta = some theta
        ∧ t.sp.livePhi = some (s.phiUsed x) ∧ t.sp.livePsi = some (s.psiUsed x) := by
  cases used : s.thetaUsed x with
  | none =>
    obtain ⟨f, n, e, t, done, noted, kept, notes⟩ := exec_unusedSample awake running set used
    have quiet : (s.sp.taken x).lossTimer = s.sp.lossTimer ∧ (s.sp.taken x).liveTheta = s.sp.liveTheta := by
      rw [taken_eq]; exact ⟨rfl, rfl⟩
    refine ⟨t, done, ?_, notes, ?_⟩
    · rw [noted, kept]
    · rw [kept]
      exact ⟨⟨rfl, rfl, rfl, rfl, rfl, rfl, rfl⟩, rfl, rfl, fun _ => ⟨rfl, rfl, rfl, rfl, rfl, rfl, quiet⟩, fun _ h => by cases h⟩
  | some theta =>
    obtain ⟨f, n, e, t, done, -, noted, ends⟩ := exec_goodSample ⟨awake, running, set, used⟩
    have judged := State.sampleKept_judgeSample (theta := theta) (phi := s.phiUsed x) (s := { s with
      sp := { s.sp.taken x with sensorFault := f, cleanRun := n }.handed (s.sampleOf x theta), ex.pending := e })
    refine ⟨t, done, ?_, ?_, ?_, ?_, ?_, ?_, ?_⟩
    · rw [ends.sp, judged.sp, noted]; rfl
    · rw [noted]; exact State.Notes.trans judged.notes ends.notes
    · exact ⟨ends.lm.trans judged.lm, ends.ports.trans judged.ports, by rw [ends.ex, judged.ex], by rw [ends.sd, judged.sd],
        ends.held.trans judged.held, ends.choices.trans judged.choices, ends.pending.trans judged.pending⟩
    · rw [ends.lt, judged.lt]
    · rw [ends.lq, judged.lq]
    · intro h; cases h
    · rintro _ ⟨⟩
      have phi := usedPhi_eq x s
      have psi := usedPsi_eq x s
      rw [ends.sp, judged.sp, ← phi, ← psi]
      exact ⟨rfl, rfl, rfl, rfl⟩

/-! ### The marks of a set (R4, R5, R7, R8) -/

theorem changedBy_clampAngle (faulted : Bool) {lo hi : Int} (h : lo ≤ hi) (v : Int) :
    changedBy (clampAngle faulted lo hi v) v = true ↔ faulted = false ∧ (v < lo ∨ hi < v) := by
  unfold changedBy clampAngle
  cases faulted with
  | true => simp
  | false => simp [clampInt_eq h]; omega

theorem changedBy_clampPressure (faulted : Bool) (v : Nat) :
    changedBy (clampPressure faulted v) v = true ↔ faulted = false ∧ 45000 < v := by
  unfold changedBy clampPressure pressureTop
  cases faulted with
  | true => simp
  | false => simp

theorem clipped_iff (x : SampleSet) (s : State) : (s.marksOf x).clipped = true ↔
    x.faults.getLsbD 0 = false ∧ 45000 < x.ph ∨ x.faults.getLsbD 1 = false ∧ 45000 < x.pr
      ∨ x.faults.getLsbD 2 = false ∧ (x.theta < -600 ∨ 700 < x.theta)
      ∨ x.faults.getLsbD 3 = false ∧ (x.phi < -900 ∨ 900 < x.phi)
      ∨ x.faults.getLsbD 4 = false ∧ (x.psi < -350 ∨ 350 < x.psi) := by
  show x.clipped = true ↔ _
  simp only [SampleSet.clipped, SampleSet.channels, Bool.or_eq_true, changedBy_clampPressure,
    changedBy_clampAngle _ (show (-600 : Int) ≤ 700 by decide), changedBy_clampAngle _ (show (-900 : Int) ≤ 900 by decide),
    changedBy_clampAngle _ (show (-350 : Int) ≤ 350 by decide), or_assoc]

theorem heldMark_iff (x : SampleSet) (s : State) : (s.marksOf x).held = true ↔
    x.faults.getLsbD 2 = true ∧ s.sp.heldAngle < 3 ∧ s.sp.lastTheta ≠ none ∨ x.faults.getLsbD 3 = true
      ∨ x.faults.getLsbD 4 = true := by
  show ((x.channels.theta.isNone && (s.sp.usedTheta x.channels.theta).isSome) || x.channels.phi.isNone
    || x.channels.psi.isNone) = true ↔ _
  rw [usedTheta_eq, channels_theta, channels_phi, channels_psi, State.thetaUsed]
  cases x.faults.getLsbD 2 <;> cases x.faults.getLsbD 3 <;> cases x.faults.getLsbD 4 <;>
    by_cases few : s.sp.heldAngle < 3 <;> simp [few, Option.isSome_iff_ne_none]

/-- A set is accepted exactly if its θ is clear, or held from a good one (R7). -/
theorem thetaUsed_eq_none (x : SampleSet) (s : State) :
    s.thetaUsed x = none ↔ x.faults.getLsbD 2 = true ∧ (3 ≤ s.sp.heldAngle ∨ s.sp.lastTheta = none) := by
  unfold State.thetaUsed
  split_ifs with faulted few
  · simp [faulted, show ¬ 3 ≤ s.sp.heldAngle by omega]
  · simp [faulted, show 3 ≤ s.sp.heldAngle by omega]
  · exact iff_of_false (by simp) fun h => faulted h.1

/-- An accepted set's θ is the last good θ that it leaves. -/
theorem thetaUsed_lastTheta {x : SampleSet} {theta : Int} (h : s.thetaUsed x = some theta) : (s.sp.taken x).lastTheta = some theta := by
  rw [taken_eq]
  unfold State.thetaUsed at h
  split_ifs at h with faulted few
  · exact (if_pos faulted).trans h
  · exact (if_neg faulted).trans h

/-- Settles O7: SP's books by `taken_eq` and `noteSet_faults`, the marks one by one. -/
theorem sampleSetBookkeeping : Obligations.SampleSetBookkeeping := by
  unfold Obligations.SampleSetBookkeeping
  intro bits x s awake running set
  obtain ⟨t, done, sp, notes, rest, lt, lq, unused, accepted⟩ := exec_set awake running set
  have books := noteSet_faults x s
  rw [taken_eq] at books
  have spBooks : t.sp = _ := sp.trans (by rw [books])
  have status := congrArg Sp.sensorFault spBooks
  have run := congrArg Sp.cleanRun spBooks
  refine ⟨t, done, congrArg Sp.seqExpect spBooks, congrArg Sp.gapCount spBooks, fun clear => ?_, fun faulted => ?_,
    congrArg Sp.lastPhi spBooks, congrArg Sp.lastPsi spBooks,
    fun any => ?_, fun clean fault => ?_, fun clean fine => ?_, ?_, fun faulted idle => ?_, fun taken => ?_, rest, lt, lq, clipped_iff x s,
    heldMark_iff x s, ?_, fun theta used => ?_⟩
  · have off : ¬x.faults.getLsbD 2 = true := by rw [clear]; decide
    exact ⟨(congrArg Sp.lastTheta spBooks).trans (if_neg off), (congrArg Sp.heldAngle spBooks).trans (if_neg off)⟩
  · exact ⟨(congrArg Sp.lastTheta spBooks).trans (if_pos faulted), (congrArg Sp.heldAngle spBooks).trans (if_pos faulted)⟩
  · have faulty := (anyFault_iff x).2 any
    refine ⟨status.trans (if_pos faulty), run.trans (if_pos faulty), fun fine p => notes p 0 ?_⟩
    have onset : (s.noteSet x).ex = s.ex.raisedBoth .sensorFault := (congrArg State.ex books).trans (if_pos ⟨faulty, fine⟩)
    rw [onset]
    exact Ex.raisedBoth_isPending .sensorFault s.ex p
  · have clear : x.anyFault = false := by simpa [SampleSet.anyFault] using clean
    rw [status, run]; simp [clear, fault]
  · have clear : x.anyFault = false := by simpa [SampleSet.anyFault] using clean
    rw [status, run]; simp [clear, fine]
  · exact ⟨(congrArg Sp.sampling spBooks :), (congrArg Sp.paceRate spBooks :), (congrArg Sp.frameErrors spBooks :)⟩
  · exact unused ((thetaUsed_eq_none x s).2 ⟨faulted, idle⟩)
  · obtain ⟨theta, used⟩ : ∃ theta, s.thetaUsed x = some theta := Option.ne_none_iff_exists'.1 fun none => by
      obtain ⟨faulted, idle⟩ := (thetaUsed_eq_none x s).1 none
      rcases taken with clear | ⟨few, good⟩
      · exact absurd (clear.symm.trans faulted) (by decide)
      · exact idle.elim (by omega) good
    obtain ⟨loss, live, -⟩ := accepted theta used
    have last : (s.noteSet x).sp.lastTheta = some theta := by
      rw [noteSet_faults]; exact thetaUsed_lastTheta used
    exact ⟨loss, live.trans (last.symm.trans (congrArg Sp.lastTheta sp).symm)⟩
  · exact gapBefore_iff s.sp x.seq
  · exact (accepted theta used).2

end

end Sys2Proof.Machine
end

section
/-! The filter and the window as one sample finds them, and the judgement of a sample by the tracker state (R35 to R60). -/

namespace Sys2Proof.Machine

open Sys2Proof

/-! ### The filter and the window (R52, R55 to R60) -/

/-- The filter takes a force under the FILTER of the state that the sample found (R52). -/
theorem filterForce_filtered {w v : We} (history : v.history = w.history) (latest : v.latestF = w.latestF) (f : Option Int) :
    w.filtered f (v.filterForce w.weigh.filter f) := by
  cases f with
  | none => exact ⟨history, latest⟩
  | some x =>
    unfold We.filtered We.filterForce pushHistory
    rw [history]
    exact ⟨rfl, rfl⟩

theorem addPitch_eq (psi : Int) (w : We) :
    w.addPitch psi = { w with
      samples := if w.samples < 65535 then w.samples + 1 else w.samples
      pitchSum := if w.samples < 65535 then w.pitchSum + psi else w.pitchSum } := by
  unfold We.addPitch top16
  split_ifs <;> rfl

/-- A window sample goes to the bin of its angle, unless the bin is full (R56 to R58). -/
theorem binSample_get (x : Sample) (w : We) (filtered : x.fRaw.isSome = true → w.latestF.isSome = true) (b : Fin 8) :
    if x.fRaw.isSome = true ∧ w.weigh.bin x.theta = some b ∧ w.counts.get b < 255 then
      (w.binSample x).gross.get b = w.gross.get b + w.latestF.getD 0 ∧ (w.binSample x).counts.get b = w.counts.get b + 1
    else (w.binSample x).gross.get b = w.gross.get b ∧ (w.binSample x).counts.get b = w.counts.get b := by
  unfold We.binSample
  cases force : x.fRaw with
  | none => simp
  | some y =>
    obtain ⟨f, latest⟩ := Option.isSome_iff_exists.1 (filtered (by rw [force]; rfl))
    cases bin : w.weigh.bin x.theta with
    | none => simp [latest]
    | some c =>
      rw [latest]
      unfold We.accumulate binCapacity
      dsimp only
      by_cases own : c = b
      · subst own
        by_cases room : w.counts.get c < 255
        · simp [room]
        · simp [room]
      · by_cases room : w.counts.get c < 255
        · simp [room, own, Eight.get_set, Ne.symm own]
        · simp [room, own]

theorem binSample_frame (x : Sample) (w : We) :
    w.binSample x = { w with gross := (w.binSample x).gross, counts := (w.binSample x).counts } := by
  unfold We.binSample We.accumulate
  split
  · split <;> rfl
  · rfl

/-- WE once a window sample's marks and pitch are taken, and the sample counted (R59, R60). -/
def We.entered (x : Sample) (w : We) : We :=
  { w with
    marks := w.marks.take w.weigh.pitchLimit x.psi x.marks x.fRaw.isSome
    samples := if w.samples < 65535 then w.samples + 1 else w.samples
    pitchSum := if w.samples < 65535 then w.pitchSum + x.psi else w.pitchSum }

theorem windowSample_eq (x : Sample) (w : We) : w.windowSample x = (w.entered x).binSample x := by
  unfold We.windowSample
  rw [addPitch_eq]; rfl

/-- The steps of a window sample, in their order (R55). -/
theorem windowSample_taken {x : SampleSet} {theta : Int} {w : We} {s : State} (record : w.weigh = s.we.weigh) :
    s.windowTaken x theta w
      ((w.filterForce s.we.weigh.filter (rawForce s.we.weigh x.channels)).windowSample (s.sampleOf x theta)) := by
  have filtered := filterForce_filtered (w := w) (v := w) rfl rfl (rawForce s.we.weigh x.channels)
  rw [record] at filtered
  have psi : (s.sampleOf x theta).psi = s.psiUsed x := usedPsi_eq x s
  have present : (rawForce s.we.weigh x.channels).isSome = true →
      (w.filterForce s.we.weigh.filter (rawForce s.we.weigh x.channels)).latestF.isSome = true := fun force => by
    obtain ⟨y, e⟩ := Option.isSome_iff_exists.1 force
    rw [e]; rfl
  obtain ⟨h, l, kept⟩ := We.filterForce_frame s.we.weigh.filter (rawForce s.we.weigh x.channels) w
  rw [kept] at filtered present ⊢
  rw [windowSample_eq]
  have bins := binSample_get (s.sampleOf x theta) (We.entered (s.sampleOf x theta) { w with history := h, latestF := l }) present
  rw [binSample_frame]
  refine ⟨filtered, rfl, rfl, rfl, rfl, ?_, fun room => ⟨if_pos room, (if_pos room).trans (by rw [psi])⟩,
    fun full => ⟨if_neg (not_lt_of_ge full), if_neg (not_lt_of_ge full)⟩, bins⟩
  simp [We.entered, WinMarks.take, psi]
  exact ⟨rfl, rfl⟩

/-! ### What the frame leaves of the judged state -/

section

variable {n : Nat} {x : Sample} {s u t : State}

theorem State.SampleEnds.we_filtered (h : State.SampleEnds n x u t) (elsewhere : u.ct.tracker ≠ .weighing) :
    t.we = u.we.filterForce n x.fRaw := by
  rw [h.we]; exact if_neg elsewhere

theorem State.SampleEnds.we_window (h : State.SampleEnds n x u t) (weighing : u.ct.tracker = .weighing) :
    t.we = (u.we.filterForce n x.fRaw).windowSample x := by
  rw [h.we]; exact if_pos weighing

theorem filterForce_rest (n : Nat) (f : Option Int) (w : We) :
    w.filterForce n f = { w with history := (w.filterForce n f).history, latestF := (w.filterForce n f).latestF } := by
  obtain ⟨h, l, e⟩ := We.filterForce_frame n f w
  rw [e]

theorem State.SampleEnds.we_rest (h : State.SampleEnds n x u t) (elsewhere : u.ct.tracker ≠ .weighing) :
    t.we = { u.we with history := t.we.history, latestF := t.we.latestF } := by
  rw [h.we_filtered elsewhere]; exact filterForce_rest n x.fRaw u.we

/-! ### LOW entry (R49, R75, R93) -/

theorem State.lowEntry_taken (s : State) :
    s.lowEntry.ct = s.ct.lowEntered ∧ s.lowEntryTaken s.lowEntry ∧ s.lowEntry.we.history = s.we.history
      ∧ s.lowEntry.we.latestF = s.we.latestF ∧ s.lowEntry.lt = s.lt ∧ s.lowEntry.lq = s.lq := by
  rw [State.lowEntry_eq]
  cases same : s.we.weigh.sameGeometry (s.we.pendingWeigh.getD s.we.weigh) with
  | true =>
    rw [State.applyWeigh_same (s := { s with ct := s.ct.lowEntered }) same]
    have geometry := (WeighRec.sameGeometry_iff _ _).1 same
    exact ⟨rfl, ⟨rfl, fun _ => ⟨rfl, rfl⟩, fun other => absurd geometry other, fun other => absurd geometry other⟩, rfl, rfl, rfl, rfl⟩
  | false =>
    have geometry := mt (WeighRec.sameGeometry_iff _ _).2 (by rw [same]; decide)
    rw [State.applyWeigh_other (s := { s with ct := s.ct.lowEntered }) same]
    by_cases idle : s.cu.cal = .idle
    · rw [State.geometryChange_idle (s := { s with ct := s.ct.lowEntered, we.weigh := _, we.pendingWeigh := none }) idle]
      exact ⟨rfl, ⟨rfl, fun h => absurd h geometry, fun _ _ => ⟨rfl, rfl⟩, fun _ running => absurd idle running⟩, rfl, rfl, rfl, rfl⟩
    · rw [State.geometryChange_running (s := { s with ct := s.ct.lowEntered, we.weigh := _, we.pendingWeigh := none }) idle]
      exact ⟨rfl, ⟨rfl, fun h => absurd h geometry, fun _ i => absurd i idle,
        fun _ _ => ⟨rfl, fun p => Ex.raisedBoth_isPending .calFailed _ p, rfl⟩⟩, rfl, rfl, rfl, rfl⟩

/-- The filter and the trace of the sample that enters LOW leave its effects. -/
theorem State.lowEntryTaken.ends (h : s.lowEntryTaken u) (e : State.SampleEnds n x u t) (elsewhere : u.ct.tracker ≠ .weighing) :
    s.lowEntryTaken t := by
  obtain ⟨we, same, idle, running⟩ := h
  refine ⟨?_, fun g => ?_, fun g i => ?_, fun g r => ?_⟩
  · rw [e.we_rest elsewhere, we]
  · rw [e.cu, e.sd]; exact same g
  · rw [e.cu, e.sd]; exact idle g i
  · rw [e.cu, e.sd]
    obtain ⟨cu, failed, advised⟩ := running g r
    exact ⟨cu, fun p => e.notes p 3 (failed p), advised⟩

end

/-! ### The judgement by the tracker state (R36) -/

section

variable {s : State} (theta phi : Int)

theorem judgeSample_low (h : s.ct.tracker = .low) : s.judgeSample theta phi = s.judgeLow theta := by
  unfold State.judgeSample; rw [h]

theorem judgeSample_lifting (h : s.ct.tracker = .lifting) : s.judgeSample theta phi = s.judgeLifting theta := by
  unfold State.judgeSample; rw [h]

theorem judgeSample_weighing (h : s.ct.tracker = .weighing) : s.judgeSample theta phi = s.judgeWeighing theta := by
  unfold State.judgeSample; rw [h]

theorem judgeSample_dumping (h : s.ct.tracker = .dumping) : s.judgeSample theta phi = s.judgeDumping theta phi := by
  unfold State.judgeSample; rw [h]

theorem judgeSample_carried (h : s.ct.tracker = .raised ∨ s.ct.tracker = .returning) :
    s.judgeSample theta phi = s.judgeCarried theta phi := by
  unfold State.judgeSample; rcases h with h | h <;> rw [h]

theorem judgeSample_waiting (h : s.ct.tracker = .sensorWait ∨ s.ct.tracker = .parked ∧ s.ct.park = false) :
    s.judgeSample theta phi = s.takeUpBoom theta := by
  unfold State.judgeSample
  rcases h with h | ⟨h, free⟩
  · rw [h]
  · rw [h]; exact if_neg (by simp [free])

theorem judgeSample_parked (h : s.ct.tracker = .parked) (park : s.ct.park = true) : s.judgeSample theta phi = s := by
  unfold State.judgeSample; rw [h]; exact if_pos park

end

end Sys2Proof.Machine
end

section
/-! A sample by the tracker state in which it arrives: the lift, the window and its abort, and the carried bucket (R35 to R60). -/

namespace Sys2Proof.Machine

open Sys2Proof

/-- The state with the books `p` at SP and the notices `e`. -/
def State.noted (p : Sp) (e : PerPort (BitVec 16)) (s : State) : State := { s with sp := p, ex.pending := e }

theorem exec_goodSample_noted {bits : List Bool} {x : SampleSet} {theta : Int} {s : State} (h : goodSample bits x theta s) :
    ∃ p e t, exec (.receivedSampleSet bits) s = .next t
      ∧ State.SampleEnds s.we.weigh.filter (s.sampleOf x theta) ((s.noted p e).judgeSample theta (s.phiUsed x)) t := by
  obtain ⟨f, n, e, t, done, -, -, ends⟩ := exec_goodSample h
  exact ⟨_, e, t, done, ends⟩

section

variable {theta phi : Int} {s : State}

/-! ### LOW and LIFTING (R37 to R39) -/

theorem judgeLow_rises (h : s.ct.cycle.thetaLow ≤ theta) :
    s.judgeLow theta = { s with ct.tracker := .lifting, ct.belowStart := true, we := { s.we with history := [] } } := if_pos h

theorem judgeLow_stays (h : theta < s.ct.cycle.thetaLow) : s.judgeLow theta = s := if_neg (not_le_of_gt h)

theorem judgeLifting_fallen (h : theta < s.ct.cycle.thetaLow - s.ct.cycle.hyst) : s.judgeLifting theta = s.lowEntry := if_pos h

theorem judgeLifting_opens (h : ¬theta < s.ct.cycle.thetaLow - s.ct.cycle.hyst) (below : s.ct.belowStart = true)
    (start : s.we.weigh.thetaStart ≤ theta) : s.judgeLifting theta = s.weighingEntry theta := by
  unfold State.judgeLifting
  rw [if_neg h, if_pos ⟨start, below⟩]

theorem judgeLifting_stays (h : ¬theta < s.ct.cycle.thetaLow - s.ct.cycle.hyst)
    (stays : s.ct.belowStart = false ∨ theta < s.we.weigh.thetaStart) :
    s.judgeLifting theta =
      { s with ct.belowStart := if theta < s.we.weigh.thetaStart then true else s.ct.belowStart } := by
  unfold State.judgeLifting
  rw [if_neg h, if_neg fun opens => stays.elim (fun off => by simp [off] at opens) (not_lt_of_ge opens.1)]
  split_ifs <;> rfl

theorem judgeLow_tally (theta : Int) (s : State) : (s.judgeLow theta).lt = s.lt ∧ (s.judgeLow theta).lq = s.lq := by
  unfold State.judgeLow
  split_ifs <;> exact ⟨rfl, rfl⟩

theorem judgeLifting_tally (theta : Int) (s : State) : (s.judgeLifting theta).lt = s.lt ∧ (s.judgeLifting theta).lq = s.lq := by
  obtain ⟨-, -, -, -, lowEntered⟩ := s.lowEntry_taken
  unfold State.judgeLifting
  split_ifs
  · exact lowEntered
  · exact ⟨rfl, rfl⟩
  · exact ⟨rfl, rfl⟩
  · exact ⟨rfl, rfl⟩

/-- Settles O11: by the tracker state and the angle. -/
theorem liftEntries : Obligations.LiftEntries := by
  unfold Obligations.LiftEntries
  intro bits x theta s good lift
  dsimp only
  obtain ⟨p, e, t, done, ends⟩ := exec_goodSample_noted good
  have tally : t.lt = s.lt ∧ t.lq = s.lq := by
    rw [ends.lt, ends.lq]
    rcases lift with low | lifting
    · rw [judgeSample_low (s := s.noted p e) _ _ low]
      exact judgeLow_tally theta _
    · rw [judgeSample_lifting (s := s.noted p e) _ _ lifting]
      exact judgeLifting_tally theta _
  refine ⟨t, done, tally.1, tally.2, fun low rises => ?rises, fun low stays => ?low, fun lifting fallen => ?fallen,
    fun lifting up below start => ?opens, fun lifting up stays => ?stays⟩
  case rises =>
    rw [judgeSample_low (s := s.noted p e) _ _ low, judgeLow_rises (s := s.noted p e) rises] at ends
    refine ⟨ends.ct, ends.cu, ?_, ends.we_rest (by simp)⟩
    rw [ends.we_filtered (by simp)]
    exact filterForce_filtered (w := { s.we with history := [] }) rfl rfl _
  case low =>
    rw [judgeSample_low (s := s.noted p e) _ _ low, judgeLow_stays (s := s.noted p e) stays] at ends
    have elsewhere : s.ct.tracker ≠ .weighing := by rw [low]; decide
    refine ⟨ends.ct, ends.cu, ?_, ends.we_rest elsewhere⟩
    rw [ends.we_filtered elsewhere]
    exact filterForce_filtered rfl rfl _
  case fallen =>
    rw [judgeSample_lifting (s := s.noted p e) _ _ lifting, judgeLifting_fallen (s := s.noted p e) fallen] at ends
    obtain ⟨ct, taken, history, latest, -⟩ := (s.noted p e).lowEntry_taken
    have elsewhere : (s.noted p e).lowEntry.ct.tracker ≠ .weighing := by
      rw [ct]; simp [Ct.lowEntered]
    refine ⟨ends.ct.trans ct, ?_, ?_⟩
    · exact taken.ends ends elsewhere
    · rw [ends.we_filtered elsewhere]
      exact filterForce_filtered history latest _
  case opens =>
    rw [judgeSample_lifting (s := s.noted p e) _ _ lifting, judgeLifting_opens (s := s.noted p e) up below start] at ends
    refine ⟨ends.ct, ?_, ?_⟩
    · rw [ends.we_window rfl]
      exact windowSample_taken rfl
    · rw [ends.cu]
      show ({ s.cu with cal := s.cu.cal.enterWindow } : Cu) = _
      cases s.cu.cal <;> rfl
  case stays =>
    rw [judgeSample_lifting (s := s.noted p e) _ _ lifting, judgeLifting_stays (s := s.noted p e) up stays] at ends
    have elsewhere : s.ct.tracker ≠ .weighing := by rw [lifting]; decide
    refine ⟨ends.ct, ends.cu, ?_, ends.we_rest elsewhere⟩
    rw [ends.we_filtered elsewhere]
    exact filterForce_filtered rfl rfl _

/-! ### WEIGHING below θEND (R42) -/

theorem judgeWeighing_lowered {high : Int} (h : s.ct.highTheta = some high) (inside : theta < s.we.weigh.thetaEnd)
    (fallen : theta < high - s.ct.cycle.hyst) :
    s.judgeWeighing theta =
      { s.abortWeigh .lowered with
        ct.tracker := .lifting, ct.belowStart := decide (theta < s.we.weigh.thetaStart) } := by
  unfold State.judgeWeighing raiseHigh
  rw [if_neg (not_le_of_gt inside), h, if_pos (show theta < max high theta - s.ct.cycle.hyst by omega)]
  rfl

theorem judgeWeighing_stays {high : Int} (h : s.ct.highTheta = some high) (inside : theta < s.we.weigh.thetaEnd)
    (up : max high theta - s.ct.cycle.hyst ≤ theta) :
    s.judgeWeighing theta = { s with ct.highTheta := some (max high theta) } := by
  unfold State.judgeWeighing raiseHigh
  rw [if_neg (not_le_of_gt inside), h, if_neg (not_lt_of_ge up)]

/-- Settles O12: the abort leaves the filter to the sample. -/
theorem loweredAborts : Obligations.LoweredAborts := by
  unfold Obligations.LoweredAborts
  intro bits x theta high s good weighing window inside fallen
  obtain ⟨p, e, t, done, ends⟩ := exec_goodSample_noted good
  rw [judgeSample_weighing (s := s.noted p e) _ _ weighing, judgeWeighing_lowered (s := s.noted p e) window inside fallen,
    State.abortWeigh_eq] at ends
  have filtered := ends.we_filtered (by simp)
  have rest := ends.we_rest (by simp)
  refine ⟨t, done, ends.ct, ?_, ?_, fun b => ?_, ?_, ends.lt, ends.lq, ?_, fun q => ends.notes q 9 ?_⟩
  · rw [rest]; rfl
  · rw [rest]; rfl
  · rw [rest]; exact ⟨Eight.get_fill _ _, Eight.get_fill _ _⟩
  · rw [filtered]
    exact filterForce_filtered rfl rfl _
  · rw [ends.cu]
    show ({ s.cu with cal := s.cu.cal.abortWindow } : Cu) = _
    cases s.cu.cal <;> rfl
  · exact Ex.raisedBoth_isPending .weighAbort _ q

/-! ### The bin of an angle (R56) -/

/-- Settles O15: the bin by the division, and the sample that stays in the window. -/
theorem binOfAngle : Obligations.BinOfAngle := by
  unfold Obligations.BinOfAngle
  refine ⟨fun w theta span => ⟨fun inside => ?bin, fun outside => if_neg outside⟩,
    fun bits x theta high s good weighing window inside up => ?stays⟩
  case stays =>
    obtain ⟨p, e, t, done, ends⟩ := exec_goodSample_noted good
    rw [judgeSample_weighing (s := s.noted p e) _ _ weighing, judgeWeighing_stays (s := s.noted p e) window inside up] at ends
    refine ⟨t, done, ends.ct, ?_, ends.cu, ends.lt, ends.lq, ends.sd⟩
    rw [ends.we_window weighing]
    exact windowSample_taken rfl
  case bin =>
    have positive : 0 < w.thetaEnd - w.thetaStart := by omega
    obtain ⟨b, quotient⟩ : ∃ b : Nat, (theta - w.thetaStart) * 8 / (w.thetaEnd - w.thetaStart) = b :=
      Int.eq_ofNat_of_zero_le (Int.ediv_nonneg (by omega) positive.le)
    have low := Int.ediv_mul_le ((theta - w.thetaStart) * 8) positive.ne'
    have high := Int.lt_ediv_add_one_mul_self ((theta - w.thetaStart) * 8) positive
    rw [quotient] at low high
    have eight : b < 8 := by
      by_contra above
      have many := mul_le_mul_of_nonneg_right (show (8 : Int) ≤ b by omega) positive.le
      omega
    refine ⟨⟨b, eight⟩, ?_, low, high⟩
    unfold WeighRec.bin
    rw [if_pos inside, quotient]
    exact dif_pos eight

/-! ### The carried bucket (R35, R44, R45, R47) -/

theorem switchTipped_iff (c : Ct) : c.switchTipped = true ↔ c.dumpConfigured = true ∧ c.dumpSwitch = true := by
  simp [Ct.switchTipped]

theorem dumpCondition_iff (c : Ct) (theta phi : Int) : c.dumpCondition theta phi = true ↔
    c.cycle.thetaDump ≤ theta ∧ (phi ≤ c.cycle.phiDump ∨ c.dumpConfigured = true ∧ c.dumpSwitch = true) := by
  simp [Ct.dumpCondition, ← switchTipped_iff]

theorem dumpOver_iff (c : Ct) (theta phi : Int) : c.dumpOver theta phi = true ↔
    c.cycle.phiDump + c.cycle.hyst ≤ phi ∧ ¬(c.dumpConfigured = true ∧ c.dumpSwitch = true)
      ∨ theta < c.cycle.thetaDump - c.cycle.hyst := by
  unfold Ct.dumpOver
  rw [Bool.or_eq_true, Bool.and_eq_true, Bool.not_eq_true', ← Bool.not_eq_true, switchTipped_iff, decide_eq_true_eq, decide_eq_true_eq]

/-- CT after an evaluation of the dump condition (R44). -/
theorem followDump_condition (c : Ct) (theta phi : Int) : c.followDump (c.dumpCondition theta phi) = { c with
    dwellTimer :=
      if c.cycle.thetaDump ≤ theta ∧ (phi ≤ c.cycle.phiDump ∨ c.dumpConfigured = true ∧ c.dumpSwitch = true) then
        (if c.dwellTimer = .stopped then .started else c.dwellTimer)
      else .stopped } := by
  unfold Ct.followDump
  simp only [dumpCondition_iff]

/-- CT after a judgement in DUMPING (R47). -/
theorem judgeDumping_eq (dumping : s.ct.tracker = .dumping) : s.judgeDumping theta phi = { s with
    ct.tracker :=
      if s.ct.cycle.phiDump + s.ct.cycle.hyst ≤ phi ∧ ¬(s.ct.dumpConfigured = true ∧ s.ct.dumpSwitch = true)
        ∨ theta < s.ct.cycle.thetaDump - s.ct.cycle.hyst then .returning
      else .dumping } := by
  unfold State.judgeDumping
  simp only [dumpOver_iff]
  split_ifs
  · rfl
  · rw [← dumping]

theorem takeUpBoom_again (h : theta < s.we.weigh.thetaStart - s.ct.cycle.hyst) : s.takeUpBoom theta = s.lowEntry := if_pos h

theorem takeUpBoom_raised (h : ¬theta < s.we.weigh.thetaStart - s.ct.cycle.hyst) :
    s.takeUpBoom theta = { s with ct.tracker := .raised, ct.belowStart := false } := if_neg h

theorem judgeCarried_again (h : theta < s.we.weigh.thetaStart - s.ct.cycle.hyst) : s.judgeCarried theta phi = s.lowEntry := if_pos h

theorem judgeCarried_up (h : ¬theta < s.we.weigh.thetaStart - s.ct.cycle.hyst) :
    s.judgeCarried theta phi = { s with ct := s.ct.followDump (s.ct.dumpCondition theta phi) } := if_neg h

/-- Outside the lift a sample enters LOW or moves CT alone, and not into the window. -/
theorem judgeSample_outside (theta phi : Int) (outside : s.ct.tracker = .sensorWait ∨ s.ct.tracker = .parked ∨ s.ct.tracker = .raised
      ∨ s.ct.tracker = .returning ∨ s.ct.tracker = .dumping) :
    s.judgeSample theta phi = s.lowEntry
      ∨ ∃ c, s.judgeSample theta phi = { s with ct := c } ∧ c.tracker ≠ .low ∧ c.tracker ≠ .weighing := by
  have boom : s.takeUpBoom theta = s.lowEntry
      ∨ ∃ c, s.takeUpBoom theta = { s with ct := c } ∧ c.tracker ≠ .low ∧ c.tracker ≠ .weighing := by
    unfold State.takeUpBoom
    split_ifs
    · exact .inl rfl
    · exact .inr ⟨_, rfl, by simp, by simp⟩
  have carried : s.ct.tracker = .raised ∨ s.ct.tracker = .returning → s.judgeCarried theta phi = s.lowEntry
      ∨ ∃ c, s.judgeCarried theta phi = { s with ct := c } ∧ c.tracker ≠ .low ∧ c.tracker ≠ .weighing := fun h => by
    unfold State.judgeCarried
    split_ifs
    · exact .inl rfl
    · refine .inr ⟨_, rfl, ?_⟩
      rcases h with h | h <;> simp [Ct.followDump, h]
  rcases outside with waiting | parked | raised | returning | dumping
  · rw [judgeSample_waiting _ _ (.inl waiting)]; exact boom
  · by_cases park : s.ct.park = true
    · rw [judgeSample_parked _ _ parked park]
      exact .inr ⟨s.ct, rfl, by rw [parked]; decide, by rw [parked]; decide⟩
    · rw [judgeSample_waiting _ _ (.inr ⟨parked, by simpa using park⟩)]; exact boom
  · rw [judgeSample_carried _ _ (.inl raised)]; exact carried (.inl raised)
  · rw [judgeSample_carried _ _ (.inr returning)]; exact carried (.inr returning)
  · rw [judgeSample_dumping _ _ dumping, judgeDumping_eq dumping]
    refine .inr ⟨_, rfl, ?_, ?_⟩ <;> dsimp only <;> split_ifs <;> decide

/-- Settles O14: CT by the tracker state, and the other blocks by whether the sample enters LOW. -/
theorem carriedSamples : Obligations.CarriedSamples := by
  unfold Obligations.CarriedSamples
  rintro bits x theta phi s good rfl outside
  dsimp only
  obtain ⟨p, e, t, done, ends⟩ := exec_goodSample_noted good
  obtain ⟨lowCt, taken, history, latest, lowLt, lowLq⟩ := (s.noted p e).lowEntry_taken
  have others : (t.ct.tracker = .low → s.lowEntryTaken t)
      ∧ (t.ct.tracker ≠ .low → t.cu = s.cu ∧ t.sd = s.sd ∧ t.we = { s.we with history := t.we.history, latestF := t.we.latestF })
      ∧ s.we.filtered (rawForce s.we.weigh x.channels) t.we ∧ t.lt = s.lt ∧ t.lq = s.lq ∧ t.lm = s.lm := by
    have lm : t.lm = s.lm := ends.lm.trans (State.sampleKept_judgeSample (s := s.noted p e) theta (s.phiUsed x)).lm
    rcases judgeSample_outside (s := s.noted p e) theta (s.phiUsed x) outside with entered | ⟨c, moved, noLow, noWindow⟩
    · rw [entered] at ends
      have low : t.ct.tracker = .low := by rw [ends.ct, lowCt]; rfl
      have elsewhere : (s.noted p e).lowEntry.ct.tracker ≠ .weighing := by rw [lowCt]; simp [Ct.lowEntered]
      refine ⟨fun _ => taken.ends ends elsewhere, fun no => absurd low no, ?_, ends.lt.trans lowLt, ends.lq.trans lowLq, lm⟩
      rw [ends.we_filtered elsewhere]
      exact filterForce_filtered history latest _
    · rw [moved] at ends
      refine ⟨fun low => absurd ((congrArg Ct.tracker ends.ct).symm.trans low) noLow, fun _ => ⟨ends.cu, ends.sd, ends.we_rest noWindow⟩, ?_, ends.lt, ends.lq, lm⟩
      rw [ends.we_filtered noWindow]
      exact filterForce_filtered rfl rfl _
  refine ⟨t, done, fun waiting => ?waiting, fun parked park => ?parked, fun carried again => ?again, fun carried up => ?up,
    fun dumping => ?dumping, others⟩
  case waiting =>
    rw [ends.ct, judgeSample_waiting (s := s.noted p e) _ _ waiting]
    split_ifs with again
    · rw [takeUpBoom_again (s := s.noted p e) again]; exact lowCt
    · rw [takeUpBoom_raised (s := s.noted p e) again]; rfl
  case parked => rw [ends.ct, judgeSample_parked (s := s.noted p e) _ _ parked park]; rfl
  case again =>
    rw [ends.ct, judgeSample_carried (s := s.noted p e) _ _ carried, judgeCarried_again (s := s.noted p e) again]; exact lowCt
  case up =>
    rw [ends.ct, judgeSample_carried (s := s.noted p e) _ _ carried, judgeCarried_up (s := s.noted p e) up]
    exact followDump_condition s.ct theta (s.phiUsed x)
  case dumping =>
    rw [ends.ct, judgeSample_dumping (s := s.noted p e) _ _ dumping, judgeDumping_eq (s := s.noted p e) dumping]; rfl

end

end Sys2Proof.Machine
end

section
/-! The completed window: the pass mass, the held pass, and the results of the calibration lifts (R41, R61 to R70, R85 to R90). -/

namespace Sys2Proof.Machine

open Sys2Proof

/-! ### Rounding (00 0.4.4) -/

/-- Half up on numbers that are not negative. -/
theorem half_up {n d : Int} (hn : 0 ≤ n) (hd : 0 < d) :
    let q := (2 * n + d) / (2 * d)
    0 ≤ q ∧ 2 * (q * d) ≤ 2 * n + d ∧ 2 * n < 2 * (q * d) + d := by
  intro q
  have low := Int.ediv_mul_le (2 * n + d) (show 2 * d ≠ 0 by omega)
  have high := Int.lt_ediv_add_one_mul_self (2 * n + d) (show 0 < 2 * d by omega)
  have twice : q * (2 * d) = 2 * (q * d) := by ring
  have next : (q + 1) * (2 * d) = 2 * (q * d) + 2 * d := by ring
  refine ⟨Int.ediv_nonneg (by omega) (by omega), ?_, ?_⟩
  · rw [← twice]; exact low
  · rw [show (2 * n + d) / (2 * d) = q from rfl, next] at high
    omega

theorem roundDiv_nearest {n d : Int} (hd : 0 < d) :
    2 * |roundDiv n d * d - n| ≤ d ∧ (2 * |roundDiv n d * d - n| = d → |n| < |roundDiv n d| * d) := by
  have bound : ∀ m : Int, 0 ≤ m → 2 * |(2 * m + d) / (2 * d) * d - m| ≤ d
      ∧ (2 * |(2 * m + d) / (2 * d) * d - m| = d → |m| < |(2 * m + d) / (2 * d)| * d) := fun m hm => by
    obtain ⟨nonneg, low, high⟩ := half_up hm hd
    rw [abs_of_nonneg hm, abs_of_nonneg nonneg]
    generalize (2 * m + d) / (2 * d) * d = p at low high ⊢
    constructor
    · rcases abs_cases (p - m) with ⟨e, -⟩ | ⟨e, -⟩ <;> omega
    · intro half
      rcases abs_cases (p - m) with ⟨e, -⟩ | ⟨e, -⟩ <;> omega
  unfold roundDiv
  split_ifs with sign
  · exact bound n sign
  · obtain ⟨near, half⟩ := bound (-n) (by omega)
    have mirrored : |-((2 * -n + d) / (2 * d)) * d - n| = |(2 * -n + d) / (2 * d) * d - -n| := by
      rw [← abs_neg]; congr 1; ring
    rw [mirrored, abs_neg, ← abs_neg n]
    exact ⟨near, half⟩

/-! ### The pass mass (R62 to R66) -/

/-- The qualifying bins as a set. -/
theorem qualifying_toFinset (w : We) :
    w.qualifying.toFinset = Finset.univ.filter fun b => w.weigh.minS ≤ w.counts.get b := by
  ext b
  simp [We.qualifying, mem_eightIndices]

theorem qualifying_nodup (w : We) : w.qualifying.Nodup := List.Nodup.filter _ (by decide)

theorem meanBinMass_eq (c : Cu) (w : We) :
    meanBinMass c w = roundDiv ((Finset.univ.filter fun b => w.weigh.minS ≤ w.counts.get b).sum (binMass c w))
      (Finset.univ.filter fun b => w.weigh.minS ≤ w.counts.get b).card := by
  rw [← qualifying_toFinset, List.sum_toFinset _ (qualifying_nodup w), List.toFinset_card_of_nodup (qualifying_nodup w)]
  rfl

/-- Settles O16: the rounding by the sign, and the mass step by step. -/
theorem passMass_eq_of_sums : Obligations.PassMass := by
  unfold Obligations.PassMass
  refine ⟨fun n d => roundDiv_nearest, fun c w mref m m0 m1 psi span masses mean pitch limit corrected => ?_⟩
  have bins : binMass c w = m := by
    funext b
    rw [masses b]
    unfold binMass
    rw [span]; rfl
  have m1_eq : correctedMass c w = m1 := by
    unfold correctedMass
    rw [corrected, pitch, mean, meanBinMass_eq, bins, clampInt_eq (by omega)]; rfl
  refine ⟨m1_eq, ?_⟩
  unfold passMass trimmedMass
  rw [clampInt_eq (by decide), m1_eq]

/-! ### The held pass (R61 to R69, R97) -/

section

variable {theta : Int} {s : State}

theorem judgeWeighing_completes (h : s.we.weigh.thetaEnd ≤ theta) : s.judgeWeighing theta =
    State.completeWindow { s with ct.tracker := .raised, ct.windowTimer := .stopped, ct.highTheta := none } := if_pos h

theorem completeWindow_noData (none : s.we.qualifying.length = 0) : s.completeWindow = s.abortWeigh .noData := if_pos none

theorem completeWindow_pass (some : 1 ≤ s.we.qualifying.length) (idle : s.cu.cal = .idle) : s.completeWindow =
    { s with we.windowOpen := false, lt.held := Option.some ((weighedPass s.cu s.we).over s.lt.held) } := by
  unfold State.completeWindow
  dsimp only
  rw [if_neg (by omega), idle]
  exact State.acceptPass_eq _ _

/-- A weighed pass handed to LT, field by field. -/
theorem over_weighedPass (c : Cu) (w : We) (old : Option Pass) :
    ((weighedPass c w).over old).binsUsed = w.qualifying.length
      ∧ ((weighedPass c w).over old).meanPitch = roundDiv w.pitchSum w.samples
      ∧ ((weighedPass c w).over old).mass = (if c.table = .valid then some (passMass c w) else none)
      ∧ ((weighedPass c w).over old).flags =
          { short := decide (w.qualifying.length < w.weigh.minB), gapped := w.marks.gapped, clipped := w.marks.clipped
            slope := w.marks.slope
            range := decide (c.table = .valid) && decide (passMass c w ≠ trimmedMass c w)
            uncal := decide (c.table ≠ .valid), reweighed := old.isSome, tipped := false }
      ∧ ((weighedPass c w).over old).reweighs = (match old with
          | none => 0
          | some o => min 15 (o.reweighs + 1)) := by
  have pass : weighedPass c w =
      { mass := if c.table = .valid then some (passMass c w) else none
        flags :=
          { short := decide (w.qualifying.length < w.weigh.minB), gapped := w.marks.gapped, clipped := w.marks.clipped
            slope := w.marks.slope
            range := decide (c.table = .valid) && decide (passMass c w ≠ trimmedMass c w)
            uncal := decide (c.table ≠ .valid), reweighed := false, tipped := false }
        binsUsed := w.qualifying.length, meanPitch := roundDiv w.pitchSum w.samples, reweighs := 0 } := by
    unfold weighedPass
    have differs : (passMass c w != trimmedMass c w) = decide (passMass c w ≠ trimmedMass c w) := by
      rw [bne, beq_eq_decide, decide_not]
    rw [differs]
    cases c.table <;> rfl
  rw [pass]
  cases old <;> exact ⟨rfl, rfl, rfl, rfl, rfl⟩

/-- Settles O13: a completed window by its qualifying bins. -/
theorem windowGivesPass : Obligations.WindowGivesPass := by
  unfold Obligations.WindowGivesPass
  intro bits x theta s good weighing complete
  dsimp only
  obtain ⟨p, e, t, done, ends⟩ := exec_goodSample_noted good
  rw [judgeSample_weighing (s := s.noted p e) _ _ weighing, judgeWeighing_completes (s := s.noted p e) complete] at ends
  refine ⟨fun several idle => ?pass, fun empty => ?noData⟩
  case pass =>
    rw [completeWindow_pass (s := { s.noted p e with ct.tracker := .raised, ct.windowTimer := .stopped, ct.highTheta := none })
      several idle] at ends
    obtain ⟨bins, pitch, mass, flags, reweighs⟩ := over_weighedPass s.cu s.we s.lt.held
    refine ⟨t, (weighedPass s.cu s.we).over s.lt.held, done, ends.ct, ?_, ?_, ends.cu, ends.lq, ends.lt, bins, pitch, mass, flags,
      reweighs⟩
    · rw [ends.we_filtered (by simp)]
      exact filterForce_filtered rfl rfl _
    · rw [ends.we_rest (by simp)]
  case noData =>
    rw [completeWindow_noData (s := { s.noted p e with ct.tracker := .raised, ct.windowTimer := .stopped, ct.highTheta := none })
      empty, State.abortWeigh_eq] at ends
    refine ⟨t, done, ends.ct, ?_, ends.lt, ends.lq, fun q => ends.notes q 9 (Ex.raisedBoth_isPending .weighAbort _ q)⟩
    rw [ends.we_rest (by simp)]; rfl

end

end Sys2Proof.Machine
end

section
/-! The results of the calibration lifts at the end of a window (R70, R85, R87, R88, R90). -/

namespace Sys2Proof.Machine

open Sys2Proof

section

variable {s : State} {q : Nat}

theorem WinMarks.any_eq_false {m : WinMarks} : m.any = false ↔ m.gapped = false ∧ m.clipped = false ∧ m.slope = false := by
  simp [WinMarks.any, and_assoc]

/-! ### The tare lift (R85) -/

theorem tareResult_short (h : q < 8) :
    s.tareResult q = s.calIdle.calFail ⟨some .tare, .failed, some .short, some q, some s.we.marks, none, none⟩ := if_pos h

theorem tareResult_quality (h : ¬q < 8) (marked : s.we.marks.any = true) : s.tareResult q =
    State.calFail ⟨some .tare, .failed, some .quality, some q, some s.we.marks, none, none⟩
      { s with cu.cal := .tareArmed, cu.scratchTare := none } := by
  unfold State.tareResult
  dsimp only
  rw [if_neg h, if_pos marked]; rfl

theorem tareResult_done (h : ¬q < 8) (clean : s.we.marks.any = false) : s.tareResult q =
    { s with
      cu.cal := .loadedWait, cu.scratchTare := some s.we.meanForces
      cu.outcome := some ⟨some .tare, .stepDone, none, some q, some s.we.marks, none, none⟩
      sd := s.sd.advised .calLiftLoad } := by
  unfold State.tareResult
  dsimp only
  rw [if_neg h, if_neg (by simp [clean]), State.queueAdvisory_eq]; rfl

/-! ### The loaded lift (R87, R88) -/

theorem loadedResult_short (h : q < 8) : s.loadedResult q =
    State.calFail ⟨some .loaded, .failed, some .short, some q, some s.we.marks, none, none⟩
      { s with cu.cal := .loadedWait, cu.scratchMref := none } := if_pos h

theorem loadedResult_quality (h : ¬q < 8) (marked : s.we.marks.any = true) : s.loadedResult q =
    State.calFail ⟨some .loaded, .failed, some .quality, some q, some s.we.marks, none, none⟩
      { s with cu.cal := .loadedArmed } := by
  unfold State.loadedResult
  dsimp only
  rw [if_neg h, if_pos marked]; rfl

theorem loadedResult_span (h : ¬q < 8) (clean : s.we.marks.any = false) {b : Fin 8}
    (short : firstShortSpan (s.cu.scratchTare.getD (Eight.fill 0)) s.we.meanForces = some b) : s.loadedResult q =
    State.calFail ⟨some .loaded, .failed, some .span, some q, some s.we.marks, some b.val, none⟩
      { s with cu.cal := .loadedWait, cu.scratchLoaded := none, cu.scratchMref := none } := by
  unfold State.loadedResult
  dsimp only
  rw [if_neg h, if_neg (by simp [clean]), short]; rfl

theorem loadedResult_done (h : ¬q < 8) (clean : s.we.marks.any = false)
    (wide : firstShortSpan (s.cu.scratchTare.getD (Eight.fill 0)) s.we.meanForces = none) : s.loadedResult q =
    s.commitTable (s.cu.scratchTare.getD (Eight.fill 0)) s.we.meanForces q := by
  unfold State.loadedResult
  dsimp only
  rw [if_neg h, if_neg (by simp [clean]), wide]

/-- The bins before `b` come before it. -/
theorem eightIndices_split (b : Fin 8) : eightIndices = eightIndices.take b.val ++ b :: eightIndices.drop (b.val + 1)
    ∧ ∀ c ∈ eightIndices.take b.val, c < b := by
  revert b; decide

/-- The bin named is the first of those with a span below 10,000. -/
theorem firstShortSpan_eq_some {t l : Eight Int} {b : Fin 8} (short : l.get b - t.get b < 10000)
    (before : ∀ c, c < b → 10000 ≤ l.get c - t.get c) : firstShortSpan t l = some b := by
  obtain ⟨split, first⟩ := eightIndices_split b
  unfold firstShortSpan minSpan
  rw [List.find?_eq_some_iff_append]
  refine ⟨by simpa using short, _, _, split, fun c hc => ?_⟩
  simpa using before c (first c hc)

theorem firstShortSpan_eq_none {t l : Eight Int} (wide : ∀ c, 10000 ≤ l.get c - t.get c) : firstShortSpan t l = none := by
  unfold firstShortSpan minSpan
  rw [List.find?_eq_none]
  intro c _
  simpa using wide c

/-! ### The zero lift (R90) -/

theorem zeroResult_done {m : Int} (low : -2000 ≤ m) (high : m ≤ 2000) : s.zeroResult m q =
    State.calDone ⟨some .zero, .done, none, some q, some s.we.marks, none, some m⟩ (State.calIdle { s with we.zt := m }) := by
  unfold State.zeroResult recordedM1
  rw [if_pos (inRange_iff.2 ⟨low, high⟩), clampInt_eq (by decide), max_eq_right (by omega), min_eq_right (by omega)]; rfl

theorem zeroResult_failed {m : Int} (outside : m < -2000 ∨ 2000 < m) : s.zeroResult m q =
    s.calIdle.calFail ⟨some .zero, .failed, some .zero, some q, some s.we.marks, none, some (recordedM1 m)⟩ := by
  unfold State.zeroResult
  rw [if_neg (by rw [inRange_iff]; omega)]; rfl

/-! ### The end of a window while a calibration runs (R70) -/

theorem completeWindow_tareLift (some : 1 ≤ s.we.qualifying.length) (lift : s.cu.cal = .tareLift) :
    s.completeWindow = State.tareResult s.we.qualifying.length { s with we.windowOpen := false } := by
  unfold State.completeWindow
  dsimp only
  rw [if_neg (by omega), lift]

theorem completeWindow_loadedLift (some : 1 ≤ s.we.qualifying.length) (lift : s.cu.cal = .loadedLift) :
    s.completeWindow = State.loadedResult s.we.qualifying.length { s with we.windowOpen := false } := by
  unfold State.completeWindow
  dsimp only
  rw [if_neg (by omega), lift]

theorem completeWindow_zeroLift (some : 1 ≤ s.we.qualifying.length) (lift : s.cu.cal = .zeroLift) :
    s.completeWindow =
      State.zeroResult (correctedMass s.cu s.we) s.we.qualifying.length { s with we.windowOpen := false } := by
  unfold State.completeWindow
  dsimp only
  rw [if_neg (by omega), lift]

/-- A window that was open before the arming is discarded (R61). -/
theorem completeWindow_armed (some : 1 ≤ s.we.qualifying.length)
    (armed : s.cu.cal = .tareArmed ∨ s.cu.cal = .loadedWait ∨ s.cu.cal = .loadedArmed ∨ s.cu.cal = .zeroArmed) :
    s.completeWindow = { s with we := s.we.discardWindow } := by
  unfold State.completeWindow
  dsimp only
  rw [if_neg (by omega)]
  rcases armed with h | h | h | h <;> rw [h]

/-- `t` is `s` in the tracker, the tally and the holder of the hold. -/
def State.SameTally (s t : State) : Prop := t.ct = s.ct ∧ t.lt = s.lt ∧ t.lq = s.lq ∧ t.ex.hold = s.ex.hold

theorem sameTally_calFail (o : CalOutcome) (s : State) : s.SameTally (s.calFail o) := by
  rw [State.calFail_eq]; exact ⟨rfl, rfl, rfl, rfl⟩

theorem sameTally_calDone (o : CalOutcome) (s : State) : s.SameTally (s.calDone o) := by
  rw [State.calDone_eq]; exact ⟨rfl, rfl, rfl, rfl⟩

theorem sameTally_tareResult (q : Nat) (s : State) : s.SameTally (s.tareResult q) := by
  unfold State.tareResult
  dsimp only
  split_ifs
  · exact sameTally_calFail _ s.calIdle
  · exact sameTally_calFail _ { s with cu.cal := .tareArmed, cu.scratchTare := none }
  · rw [State.queueAdvisory_eq]; exact ⟨rfl, rfl, rfl, rfl⟩

theorem sameTally_loadedResult (q : Nat) (s : State) : s.SameTally (s.loadedResult q) := by
  unfold State.loadedResult
  dsimp only
  split_ifs
  · exact sameTally_calFail _ { s with cu.cal := .loadedWait, cu.scratchMref := none }
  · exact sameTally_calFail _ { s with cu.cal := .loadedArmed }
  · split
    · exact sameTally_calFail _ { s with cu.cal := .loadedWait, cu.scratchLoaded := none, cu.scratchMref := none }
    · exact sameTally_calDone _ (State.calIdle { s with cu := _ })

theorem sameTally_zeroResult (m : Int) (q : Nat) (s : State) : s.SameTally (s.zeroResult m q) := by
  unfold State.zeroResult
  dsimp only
  split_ifs
  · exact sameTally_calDone _ (State.calIdle { s with we.zt := m })
  · exact sameTally_calFail _ s.calIdle

theorem sameTally_completeWindow (several : 1 ≤ s.we.qualifying.length) (running : s.cu.cal ≠ .idle) :
    s.SameTally s.completeWindow := by
  cases cal : s.cu.cal with
  | idle => exact absurd cal running
  | tareLift => rw [completeWindow_tareLift several cal]; exact sameTally_tareResult _ { s with we.windowOpen := false }
  | loadedLift => rw [completeWindow_loadedLift several cal]; exact sameTally_loadedResult _ { s with we.windowOpen := false }
  | zeroLift => rw [completeWindow_zeroLift several cal]; exact sameTally_zeroResult _ _ { s with we.windowOpen := false }
  | _ => rw [completeWindow_armed several (by simp [cal])]; exact ⟨rfl, rfl, rfl, rfl⟩

/-- The state in which CT hands WE a completed window. -/
def State.handsWindow (s : State) : State := { s with ct.tracker := .raised, ct.windowTimer := .stopped, ct.highTheta := none }

/-- Settles O53: the results lift by lift. -/
theorem calibrationLifts : Obligations.CalibrationLifts := by
  unfold Obligations.CalibrationLifts
  intro bits x theta s good weighing complete running
  dsimp only
  intro several
  obtain ⟨p, e, t, done, ends⟩ := exec_goodSample_noted good
  rw [judgeSample_weighing (s := s.noted p e) _ _ weighing, judgeWeighing_completes (s := s.noted p e) complete] at ends
  change State.SampleEnds _ _ (s.noted p e).handsWindow.completeWindow t at ends
  obtain ⟨ct, lt, lq, hold⟩ := sameTally_completeWindow (s := (s.noted p e).handsWindow) several running
  have elsewhere : (s.noted p e).handsWindow.completeWindow.ct.tracker ≠ .weighing := by rw [ct]; simp [State.handsWindow]
  have unmarked : s.we.marks.gapped = false ∧ s.we.marks.clipped = false ∧ s.we.marks.slope = false → s.we.marks.any = false :=
    WinMarks.any_eq_false.2
  have marked : ¬(s.we.marks.gapped = false ∧ s.we.marks.clipped = false ∧ s.we.marks.slope = false) → s.we.marks.any = true :=
    fun h => by simpa using mt WinMarks.any_eq_false.1 h
  have fate : ∀ u, (s.noted p e).handsWindow.completeWindow = u →
      State.SampleEnds s.we.weigh.filter (s.sampleOf x theta) u t := fun u h => h ▸ ends
  have tare := completeWindow_tareLift (s := (s.noted p e).handsWindow) several
  have loaded := completeWindow_loadedLift (s := (s.noted p e).handsWindow) several
  have zero := completeWindow_zeroLift (s := (s.noted p e).handsWindow) several
  have whole : ∀ {n : Nat}, n = 8 → ¬n < 8 := fun h => by omega
  refine ⟨t, done, ends.ct.trans ct, ?open_, ends.lt.trans lt, ends.lq.trans lq, ?hold, fun lift short => ?tareShort,
    fun lift all bad => ?tareQuality, fun lift all clean => ?tareDone, fun lift short => ?loadedShort,
    fun lift all bad => ?loadedQuality, fun tare' scratch b lift all clean narrow before => ?loadedSpan,
    fun tare' scratch lift all clean wide => ?loadedDone, fun lift low high => ?zeroDone, fun lift outside => ?zeroFailed,
    fun armed => ?armed⟩
  case open_ =>
    rw [ends.we_rest elsewhere]
    exact (State.completeWindow_closes (s.noted p e).handsWindow).1
  case hold => rw [ends.ex]; exact hold
  case tareShort =>
    have ends := fate _ (tare lift |>.trans (tareResult_short (by exact short)) |>.trans (State.calFail_eq _ _))
    exact ⟨ends.cu, fun q => ends.notes q 3 (Ex.raisedBoth_isPending .calFailed _ q)⟩
  case tareQuality =>
    have ends := fate _ (tare lift |>.trans (tareResult_quality (by exact whole all) (by exact marked bad))
      |>.trans (State.calFail_eq _ _))
    exact ⟨ends.cu, fun q => ends.notes q 3 (Ex.raisedBoth_isPending .calFailed _ q)⟩
  case tareDone =>
    have ends := fate _ (tare lift |>.trans (tareResult_done (by exact whole all) (by exact unmarked clean)))
    refine ⟨?_, ⟨s.we.meanForces, congrArg Cu.scratchTare ends.cu, fun b => Eight.get_tabulate _ _⟩, congrArg Sd.advisories ends.sd⟩
    rw [ends.cu]; rfl
  case loadedShort =>
    have ends := fate _ (loaded lift |>.trans (loadedResult_short (by exact short)) |>.trans (State.calFail_eq _ _))
    exact ⟨ends.cu, fun q => ends.notes q 3 (Ex.raisedBoth_isPending .calFailed _ q)⟩
  case loadedQuality =>
    have ends := fate _ (loaded lift |>.trans (loadedResult_quality (by exact whole all) (by exact marked bad))
      |>.trans (State.calFail_eq _ _))
    exact ⟨ends.cu, fun q => ends.notes q 3 (Ex.raisedBoth_isPending .calFailed _ q)⟩
  case loadedSpan =>
    have short : firstShortSpan (s.cu.scratchTare.getD (Eight.fill 0)) s.we.meanForces = some b := by
      rw [scratch]
      refine firstShortSpan_eq_some ?_ fun c hc => ?_
      · simpa [We.meanForces] using narrow
      · simpa [We.meanForces] using before c hc
    have ends := fate _ (loaded lift |>.trans (loadedResult_span (by exact whole all) (by exact unmarked clean) (by exact short))
      |>.trans (State.calFail_eq _ _))
    exact ⟨ends.cu, fun q => ends.notes q 3 (Ex.raisedBoth_isPending .calFailed _ q)⟩
  case loadedDone =>
    have enough : firstShortSpan (s.cu.scratchTare.getD (Eight.fill 0)) s.we.meanForces = none := by
      rw [scratch]
      exact firstShortSpan_eq_none fun c => by simpa [We.meanForces] using wide c
    have ends := fate _ (loaded lift |>.trans (loadedResult_done (by exact whole all) (by exact unmarked clean) (by exact enough))
      |>.trans (State.calDone_eq _ _))
    have same : s.cu.scratchTare.getD (Eight.fill 0) = tare' := by rw [scratch]; rfl
    refine ⟨?_, fun b => ?_, fun q => ends.notes q 2 (Ex.raisedBoth_isPending .calDone _ q), congrArg Sd.advisories ends.sd, ?_⟩
    · rw [ends.cu, ← same]; rfl
    · rw [ends.cu]; exact Eight.get_tabulate _ _
    · rw [ends.we_rest (by simp [State.calIdle, State.handsWindow])]; rfl
  case zeroDone =>
    have ends := fate _ (zero lift |>.trans (zeroResult_done (by exact low) (by exact high)) |>.trans (State.calDone_eq _ _))
    refine ⟨ends.cu, ?_, fun q => ends.notes q 2 (Ex.raisedBoth_isPending .calDone _ q)⟩
    rw [ends.we_rest (by simp [State.calIdle, State.handsWindow])]; rfl
  case zeroFailed =>
    have ends := fate _ (zero lift |>.trans (zeroResult_failed (by exact outside)) |>.trans (State.calFail_eq _ _))
    refine ⟨(congrArg Cu.cal ends.cu :), (congrArg Cu.table ends.cu :), ?_, ⟨_, congrArg Cu.outcome ends.cu, rfl, rfl, rfl, rfl, rfl⟩,
      fun q => ends.notes q 3 (Ex.raisedBoth_isPending .calFailed _ q)⟩
    rw [ends.we_rest (by simp [State.calIdle, State.handsWindow])]; rfl
  case armed =>
    have ends := fate _ (completeWindow_armed (s := (s.noted p e).handsWindow) several armed)
    exact ⟨ends.cu, ends.sd⟩

end

end Sys2Proof.Machine
end

section
/-! What a dump entry does to the tally: the credit of the held pass (R67, R100 to R105). -/

namespace Sys2Proof.Machine

open Sys2Proof

/-! ### The credited mass (R67) -/

theorem creditedMass_some (m : Int) : (creditedMass (some m) : Int) = max m 0 := Int.toNat_eq_max m

theorem creditedMass_eq (m : Option Int) : creditedMass m = (max (m.getD 0) 0).toNat := by
  cases m with
  | none => rfl
  | some m => show m.toNat = (max m 0).toNat; omega

theorem creditedMass_weighedPass_le (c : Cu) (w : We) : creditedMass (weighedPass c w).mass ≤ 65000 := by
  have mass : (weighedPass c w).mass = none ∨ (weighedPass c w).mass = some (passMass c w) := by
    unfold weighedPass
    dsimp only
    split
    · exact .inr rfl
    · exact .inl rfl
  obtain ⟨-, le⟩ := clampInt_bounds (show (-5000 : Int) ≤ 65000 by decide) (trimmedMass c w)
  obtain mass | mass := mass <;> rw [mass, creditedMass]
  · exact Nat.zero_le _
  · exact Int.toNat_le.mpr le

/-! ### A credit, step by step (R104) -/

/-- A load with a pass of this mass and these flags appended, its state as it was. -/
def Load.withPass (x : Pass) (l : Load) : Load :=
  { l with
    passes := l.passes ++ [⟨l.passes.length + 1, x.mass, x.flags, creditedMass x.mass⟩]
    total := l.total + creditedMass x.mass }

/-- LT once a pass is appended to its open load and the load state recomputed. -/
def Lt.withPass (x : Pass) (l : Lt) : Lt :=
  { l with
    load := { l.load.withPass x with state := loadStateOf l.settings (l.load.withPass x) }
    durationTimer := if l.load.passes = [] then .counting 0 else l.durationTimer
    held := none }

/-- Steps 2 to 6 of a credit of `x` to the open load, for which there is room (R103, R104). -/
def State.creditInto (x : Pass) (s : State) : State :=
  ((s.appendPass x).countCredit.raiseBoth .passCredited).recomputeLoad.announceLoad s.lt.load.state

/-- What steps 2 to 6 of a credit of `x` make of `s`. -/
structure State.CreditedInto (x : Pass) (s t : State) : Prop where
  lt : t.lt = s.lt.withPass x
  lq : t.lq = { s.lq with counters.credited := min 65535 (s.lq.counters.credited + 1) }
  ct : t.ct = s.ct
  we : t.we = s.we
  cu : t.cu = s.cu
  sp : t.sp = s.sp
  rest : s.restKept t
  credited : ∀ p, (t.ex.pending.get p).getLsbD 8 = true
  target : t.lt.load.state = .target → s.lt.load.state ≠ .target → ∀ p, (t.ex.pending.get p).getLsbD 6 = true
  overload : t.lt.load.state = .over → s.lt.load.state ≠ .over → ∀ p, (t.ex.pending.get p).getLsbD 7 = true

theorem State.recomputed_appendPass_lt (x : Pass) (s : State) :
    ((s.appendPass x).countCredit.raiseBoth .passCredited).recomputeLoad.lt = s.lt.withPass x := by
  simp [State.recomputeLoad, State.raiseBoth_eq, State.countCredit, State.appendPass, Lt.withPass, Load.withPass]

theorem State.creditedInto_creditInto (x : Pass) (s : State) : s.CreditedInto x (s.creditInto x) := by
  obtain ⟨lt, lq, ct, we, cu, sp, ⟨lm, ports, ex, sd, held, choices, pending⟩, target, overload, -, keeps⟩ :=
    announceLoad_spec s.lt.load.state ((s.appendPass x).countCredit.raiseBoth .passCredited).recomputeLoad
  have tally := lt.trans (s.recomputed_appendPass_lt x)
  refine ⟨tally, lq, ct, we, cu, sp, ⟨lm, ports, ex, sd, held, choices, pending⟩,
    fun p => keeps p 8 (Ex.raisedBoth_isPending .passCredited s.ex p), fun h => target ?_, fun h => overload ?_⟩ <;>
    rwa [← lt]

theorem State.credit_none {s : State} (h : s.lt.held = none) : s.credit = s := by
  unfold State.credit; rw [h]

theorem State.credit_some {s : State} {x : Pass} (h : s.lt.held = some x) : s.credit = (s.makeRoom.creditInto x).autoClose := by
  unfold State.credit; rw [h]; rfl

theorem State.makeRoom_room {s : State} (h : s.lt.load.passes.length < 12) : s.makeRoom = s := if_pos h

theorem State.makeRoom_full {s : State} (h : 12 ≤ s.lt.load.passes.length) : s.makeRoom = s.closeLoad .passLimit :=
  if_neg (Nat.not_lt.mpr h)

theorem State.autoClose_off {s : State} (h : s.lt.settings.autoClose = false) : s.autoClose = s := by
  unfold State.autoClose; rw [if_neg (by simp [h])]

theorem State.autoClose_filling {s : State} (h : s.lt.load.state = .filling) : s.autoClose = s := by
  unfold State.autoClose; rw [if_neg (by simp [h])]

theorem State.autoClose_reached {s : State} (on : s.lt.settings.autoClose = true)
    (reached : s.lt.load.state = .target ∨ s.lt.load.state = .over) : s.autoClose = s.closeLoad .target :=
  if_pos ⟨on, reached⟩

theorem State.autoClose_keepsPending {s : State} {p : Port} {n : Nat} (h : (s.ex.pending.get p).getLsbD n = true) :
    (s.autoClose.ex.pending.get p).getLsbD n = true := by
  unfold State.autoClose
  split
  · rw [State.closeLoad_eq]
    show ((s.ex.loadClosed s.lq.queue.length).pending.get p).getLsbD n = true
    unfold Ex.loadClosed Ex.dropped
    split <;> simp only [Ex.raisedBoth_keepsPending, h]
  · exact h

theorem State.credit_room {s : State} {x : Pass} (held : s.lt.held = some x) (room : s.lt.load.passes.length < 12) :
    s.credit = (s.creditInto x).autoClose := by
  rw [State.credit_some held, State.makeRoom_room room]

/-- Settles O17. -/
theorem creditedMass_eq_max_zero : Obligations.CreditedMass := by
  unfold Obligations.CreditedMass
  refine ⟨creditedMass_some, rfl, creditedMass_weighedPass_le, fun x s held room off => ?_⟩
  have credited := s.creditedInto_creditInto x
  rw [State.credit_room held room, State.autoClose_off (by rw [credited.lt]; exact off), credited.lt]
  rfl

/-- Settles O21: by the load state that the credit leaves. -/
theorem autoClose : Obligations.AutoClose := by
  unfold Obligations.AutoClose
  intro s x held room
  have credited := s.creditedInto_creditInto x
  rw [State.credit_room held room]
  have state : (s.creditInto x).lt.load.state = loadStateOf s.lt.settings (s.lt.load.withPass x) := by rw [credited.lt]; rfl
  have setting : (s.creditInto x).lt.settings.autoClose = s.lt.settings.autoClose := by rw [credited.lt]; rfl
  refine ⟨fun reached on => ?closed, fun stays => ?stays, fun now was p => ?target, fun now was p => ?overload⟩
  case closed =>
    rw [State.autoClose_reached (by rw [setting, on]) (by rw [state]; exact reached)]
    have closed := State.closedBy_closeLoad .target (s.creditInto x)
    rw [closed.lt, closed.queue, credited.lt]
    exact ⟨rfl, rfl, _, List.getLast?_concat, rfl, rfl⟩
  case stays =>
    have open_ : (s.creditInto x).autoClose = s.creditInto x := by
      obtain filling | off := stays
      · exact State.autoClose_filling (by rw [state]; exact filling)
      · exact State.autoClose_off (by rw [setting, off])
    rw [open_, credited.lt, credited.lq]
    exact ⟨rfl, rfl⟩
  case target => exact State.autoClose_keepsPending (credited.target (by rw [state]; exact now) was p)
  case overload => exact State.autoClose_keepsPending (credited.overload (by rw [state]; exact now) was p)

theorem State.restKept_trans {s t u : State} (h : s.restKept t) (k : t.restKept u) : s.restKept u := by
  obtain ⟨lm, ports, ex, sd, held, choices, pending⟩ := h
  obtain ⟨lm', ports', ex', sd', held', choices', pending'⟩ := k
  exact ⟨lm'.trans lm, ports'.trans ports, by rw [ex', ex], by rw [sd', sd], held'.trans held, choices'.trans choices,
    pending'.trans pending⟩

/-! ### The dump entry (R46) -/

/-- A dump entry that counts a cycle, before the credit. -/
def State.cycleCounted (s : State) : State :=
  { s with
    ct.tracker := .dumping, ct.dwellTimer := .stopped, ct.cycleRef := .counting 0, ct.latestCycle := some s.ct.cycleTime
    lq.counters.cycles := min 65535 (s.lq.counters.cycles + 1)
    lq.counters.cycleTimeSum := min 4294967295 (s.lq.counters.cycleTimeSum + s.ct.cycleTime) }

theorem State.dumpEntry_idle {s : State} (h : s.cu.cal = .idle) : s.dumpEntry = s.cycleCounted.credit := if_pos h

theorem State.dumpEntry_running {s : State} (h : s.cu.cal ≠ .idle) :
    s.dumpEntry = { s with ct.tracker := .dumping, ct.dwellTimer := .stopped, ct.cycleRef := .counting 0 } := if_neg h

theorem Timer.due_counting {period n : Nat} (h : period ≤ n) : (Timer.counting n).due period = true := decide_eq_true h

/-- A timer that has counted less than its period is not due (00 0.4.3). -/
theorem Timer.not_due {t : Timer} {period : Nat} (h : ∀ n, t = .counting n → n < period) : t.due period = false := by
  cases t with
  | stopped => rfl
  | started => rfl
  | counting n => exact decide_eq_false (Nat.not_le.mpr (h n rfl))

theorem exec_dwellTimerExpiry_due {s : State} (hs : s.held = false)
    (due : s.ct.dwellTimer = .counting (s.ct.cycle.dumpDwell / 10)) (raised : s.ct.tracker = .raised) :
    exec .dwellTimerExpiry s = .next s.dumpEntry := by
  show live s State.dwellExpiry = _
  rw [live_not_held _ hs]
  unfold State.dwellExpiry
  rw [if_pos (by rw [due]; exact Timer.due_counting le_rfl), raised]

/-- Settles O19: by the tracker state and the calibration at the expiry. -/
theorem dwellExpiry : Obligations.DwellExpiry := by
  unfold Obligations.DwellExpiry
  intro s ticks hs ref
  have time : s.ct.cycleTime = min 65535 (ticks / 10) := by unfold Ct.cycleTime; rw [ref]; rfl
  refine ⟨fun due returning => ?_, fun due raised running => ?_, fun due raised idle none => ?_, fun early => ?_⟩
  · show live s State.dwellExpiry = _
    rw [live_not_held _ hs]
    unfold State.dwellExpiry
    rw [if_pos (by rw [due]; exact Timer.due_counting le_rfl), returning]
  · rw [exec_dwellTimerExpiry_due hs due raised, State.dumpEntry_running running]
  · rw [exec_dwellTimerExpiry_due hs due raised, State.dumpEntry_idle idle, State.credit_none (by exact none)]
    unfold State.cycleCounted
    rw [time]
  · show live s State.dwellExpiry = _
    rw [live_not_held _ hs]
    unfold State.dwellExpiry
    rw [if_neg (by rw [State.dwellPeriod, Timer.not_due early]; exact Bool.false_ne_true)]

/-- Settles O20: without and with the close of a load of twelve. -/
theorem dumpCreditsPass : Obligations.DumpCreditsPass := by
  unfold Obligations.DumpCreditsPass
  intro s x hs raised due idle held off
  rw [exec_dwellTimerExpiry_due hs due raised, State.dumpEntry_idle idle, State.credit_some (x := x) (by exact held)]
  have state (l : Lt) : (l.withPass x).load.state = loadStateOf (l.withPass x).settings (l.withPass x).load :=
    loadStateOf_congr _ rfl rfl rfl
  obtain room | full := Nat.lt_or_ge s.lt.load.passes.length 12
  · rw [State.makeRoom_room (by exact room)]
    obtain ⟨lt, lq, ct, we, cu, sp, rest, credited, -, -⟩ := s.cycleCounted.creditedInto_creditInto x
    rw [State.autoClose_off (by rw [lt]; exact off)]
    refine ⟨_, rfl, ?_⟩
    rw [lt, lq, ct, we, cu, sp]
    refine ⟨rfl, rfl, rfl, rfl, rfl, rfl, credited, state s.lt, rfl, rfl, rfl, rest, fun _ => ⟨?_, rfl, rfl, rfl⟩,
      fun full => absurd room (Nat.not_lt.mpr full)⟩
    rw [← creditedMass_eq]; rfl
  · rw [State.makeRoom_full (by exact full)]
    have closed := State.closedBy_closeLoad .passLimit s.cycleCounted
    obtain ⟨lt, lq, ct, we, cu, sp, rest, credited, -, -⟩ := (s.cycleCounted.closeLoad .passLimit).creditedInto_creditInto x
    rw [State.autoClose_off (by rw [lt, closed.lt]; exact off)]
    refine ⟨_, rfl, ?_⟩
    rw [lt, lq, ct, we, cu, sp, closed.lt, closed.ct, closed.we, closed.cu, closed.sp]
    refine ⟨rfl, rfl, rfl, rfl, ?_, ?_, credited, state _, rfl, rfl, rfl, ?_, fun room => absurd room (Nat.not_lt.mpr full),
      fun _ => ⟨rfl, ?_, ?_, rfl, rfl, closedRecord .passLimit s.lt.load, ?_, rfl, rfl⟩⟩
    · show min 65535 ((s.cycleCounted.closeLoad .passLimit).lq.counters.credited + 1) = _
      rw [closed.counters]; rfl
    · show (s.cycleCounted.closeLoad .passLimit).lq.counters.cycles = _
      rw [closed.counters]; rfl
    · exact State.restKept_trans (by exact closed.rest) rest
    · rw [← creditedMass_eq]; rfl
    · rw [← creditedMass_eq]; exact Nat.zero_add _
    · show (s.cycleCounted.closeLoad .passLimit).lq.queue.getLast? = _
      rw [closed.queue]; exact List.getLast?_concat

end Sys2Proof.Machine
end

section
/-! What the expiries of the part's timers do, at the expiry and before it (00 0.4.3, R2, R12, R43, R101, R132, R137 to R149). -/

namespace Sys2Proof.Machine

open Sys2Proof

/-! ### Ticks (00 0.4.3) -/

theorem Timer.tick_stopped_iterate (period k : Nat) : (Timer.tick period)^[k] .stopped = .stopped :=
  Function.iterate_fixed rfl k

/-- A timer that counts from 0 counts the ticks up to its period. -/
theorem Timer.tick_zero_iterate (period k : Nat) : (Timer.tick period)^[k] (.counting 0) = .counting (min period k) := by
  induction k with
  | zero => simp
  | succ k ih =>
    rw [Function.iterate_succ_apply', ih]
    show Timer.counting (if min period k < period then min period k + 1 else min period k) = _
    congr 1
    split <;> omega

theorem Timer.due_counting_iff (period n : Nat) : (Timer.counting n).due period = true ↔ period ≤ n := decide_eq_true_iff

/-- A timer that counts from 0 is due once its period of ticks has passed. -/
theorem Timer.due_iterate_zero (period k : Nat) : ((Timer.tick period)^[k] (.counting 0)).due period = true ↔ period ≤ k := by
  rw [Timer.tick_zero_iterate, Timer.due_counting_iff]
  omega

/-- The first tick boundary after the start of a timer begins its count. -/
theorem Timer.due_iterate_started (period k : Nat) : ((Timer.tick period)^[k] .started).due period = true ↔ period + 1 ≤ k := by
  cases k with
  | zero => simp [Timer.due]
  | succ k =>
    rw [Function.iterate_succ_apply]
    exact (Timer.due_iterate_zero period k).trans (Nat.succ_le_succ_iff).symm

section

variable {s : State}

/-! ### An expiry taken when it is due, and before that -/

theorem live_eq {f : State → State} {t : State} (hs : s.held = false) (h : f s = t) : live s f = .next t := by
  rw [live_not_held f hs, h]

theorem ite_due {α : Type} {t : Timer} {period : Nat} {x y : α} (h : t = .counting period) :
    (if t.due period = true then x else y) = x := if_pos (by rw [h]; exact Timer.due_counting le_rfl)

theorem Timer.not_due_true {t : Timer} {period : Nat} (h : ∀ n, t = .counting n → n < period) : ¬ t.due period = true := by
  rw [Timer.not_due h]; exact Bool.false_ne_true

theorem ite_early {α : Type} {t : Timer} {period : Nat} {x y : α} (h : ∀ n, t = .counting n → n < period) :
    (if t.due period = true then x else y) = y := if_neg (Timer.not_due_true h)

/-! ### Pacing (R2, log 11) -/

theorem exec_pacePulse_due (hs : s.held = false) (running : s.sp.sampling = .running) (due : s.sp.pulseDue = true) :
    exec .pacePulse s =
      .next { s with sp.pace := true, sp.pacePulses := s.sp.pacePulses + 1, sp.pacer := .counting 0 } :=
  live_eq hs (if_pos ⟨running, due⟩)

theorem exec_pacePulse_early (hs : s.held = false) (early : ¬ (s.sp.sampling = .running ∧ s.sp.pulseDue = true)) :
    exec .pacePulse s = .next s :=
  live_eq hs (if_neg early)

theorem Sp.pulseDue_of {p : Sp}
    (h : p.paceRate = .hz50 ∧ p.pacer = .counting 2 ∨ p.paceRate = .hz100 ∧ p.pacer = .counting 1
      ∨ p.paceRate = .hz200 ∧ p.pacer ≠ .stopped) : p.pulseDue = true := by
  unfold Sp.pulseDue
  obtain ⟨rate, pacer⟩ | ⟨rate, pacer⟩ | ⟨rate, pacer⟩ := h <;> rw [rate]
  · rw [pacer]; rfl
  · rw [pacer]; rfl
  · exact bne_iff_ne.mpr pacer

theorem Sp.not_pulseDue_of {p : Sp}
    (h : p.paceRate = .hz50 ∧ (∀ n, p.pacer = .counting n → n < 2) ∨ p.paceRate = .hz100 ∧ (∀ n, p.pacer = .counting n → n < 1)
      ∨ p.paceRate = .hz200 ∧ p.pacer = .stopped) : ¬ p.pulseDue = true := by
  unfold Sp.pulseDue
  obtain ⟨rate, pacer⟩ | ⟨rate, pacer⟩ | ⟨rate, pacer⟩ := h <;> rw [rate]
  · exact Timer.not_due_true pacer
  · exact Timer.not_due_true pacer
  · rw [pacer]; decide

/-- Settles O22: the ticks by induction, each expiry at its period and before it. -/
theorem timersAndTicks : Obligations.TimersAndTicks := by
  unfold Obligations.TimersAndTicks
  refine ⟨fun period k => ⟨Timer.due_iterate_started period k, Timer.due_iterate_zero period k, ?_⟩, fun s hs =>
    ⟨fun running due => exec_pacePulse_due hs running (Sp.pulseDue_of due), fun idle => exec_pacePulse_early hs ?_,
      fun early => exec_pacePulse_early hs fun due => Sp.not_pulseDue_of early due.2, fun due => ?_, fun early => ?_, fun due => ?_,
      fun early => ?_⟩⟩
  · rw [Timer.tick_stopped_iterate]; rfl
  · rintro ⟨running, due⟩
    obtain stopped | off := idle
    · exact absurd (running.symm.trans stopped) (by decide)
    · unfold Sp.pulseDue at due; rw [off] at due; exact Bool.false_ne_true due
  · exact live_eq hs (ite_due due)
  · exact live_eq hs (ite_early early)
  · exact live_eq hs (ite_due due)
  · exact live_eq hs (ite_early early)

/-! ### The window timer (R43) -/

/-- Settles O18. -/
theorem windowTimeout : Obligations.WindowTimeout := by
  unfold Obligations.WindowTimeout
  refine fun s hs => ⟨fun due weighing => ?_, fun early => ?_⟩
  · have expired : s.windowTimeout = ({ s.abortWeigh .timeout with sp.trace.mode := s.sp.trace.mode.ended } : State).enter .lifting := by
      rw [← State.abortIfWeighing_weighing weighing]
      exact if_pos ⟨by rw [due]; exact Timer.due_counting le_rfl, weighing⟩
    have aborted := weighAborted_abortWeigh .timeout s
    refine ⟨_, live_eq hs expired, ?_⟩
    rw [State.abortWeigh_eq] at aborted ⊢
    exact ⟨aborted, rfl, rfl, rfl, ⟨rfl, rfl, rfl, rfl, rfl, rfl, rfl⟩⟩
  · exact live_eq hs (if_neg fun due => Timer.not_due_true early due.1)

/-! ### The sample-loss timer (R12, R34) -/

/-- SP once a sample loss is taken. -/
def Sp.lost (p : Sp) : Sp :=
  { p with
    lossTimer := .stopped, seqExpect := none, lastTheta := none, lastPhi := none, lastPsi := none
    heldAngle := 0, sensorFault := true, cleanRun := 0 }

theorem State.sampleLoss_due (due : s.sp.lossTimer = .counting 25) :
    s.sampleLoss = (({ s with sp := s.sp.lost }).raiseBoth .sensorFault).trackerLoss := ite_due due

theorem State.trackerLoss_other (other : s.ct.tracker ≠ .weighing) :
    s.trackerLoss = { s with
      ct :=
        if s.ct.tracker = .low ∨ s.ct.tracker = .lifting ∨ s.ct.tracker = .raised ∨ s.ct.tracker = .dumping
          ∨ s.ct.tracker = .returning then
          { s.ct with
            tracker := .sensorWait, windowTimer := .stopped, dwellTimer := .stopped, belowStart := false, highTheta := none }
        else s.ct } := by
  unfold State.trackerLoss
  rw [State.abortIfWeighing_other other]
  cases tracker : s.ct.tracker with
  | weighing => exact absurd tracker other
  | stopped => rfl
  | sensorWait => rfl
  | parked => rfl
  | low => rfl
  | lifting => rfl
  | raised => rfl
  | dumping => rfl
  | returning => rfl

theorem State.trackerLoss_weighing (weighing : s.ct.tracker = .weighing) :
    s.trackerLoss = { s.abortWeigh .sensorLost with
      sp.trace.mode := s.sp.trace.mode.ended
      ct := { (s.abortWeigh .sensorLost).ct.standDown with tracker := .sensorWait, highTheta := none } } := by
  unfold State.trackerLoss
  rw [State.abortIfWeighing_weighing weighing, weighing]
  rfl

/-- Settles O9: outside WEIGHING and in it. -/
theorem sampleLossTaken : Obligations.SampleLossTaken := by
  unfold Obligations.SampleLossTaken
  refine fun s hs => ⟨fun due other => ?_, fun due weighing => ?_, fun early => ?_⟩
  · refine live_eq hs ?_
    rw [State.sampleLoss_due due, State.trackerLoss_other (by exact other)]; rfl
  · refine ⟨_, live_not_held _ hs, ?_⟩
    rw [State.sampleLoss_due due, State.trackerLoss_weighing (by exact weighing), State.abortWeigh_eq]
    exact ⟨rfl, rfl, rfl, rfl, rfl, ⟨rfl, rfl, rfl, rfl, rfl, rfl, rfl⟩, fun p =>
      ⟨Ex.raisedBoth_keepsPending _ (Ex.raisedBoth_isPending .sensorFault s.ex p), Ex.raisedBoth_isPending .weighAbort _ p⟩⟩
  · exact live_eq hs (ite_early early)

/-! ### The strip's timers (R137, R138, R144, R148, R149) -/

theorem State.advisoryExpiry_due (due : s.sd.holdTimer = .counting (s.sd.holdTime * 10)) :
    s.advisoryExpiry =
      match s.sd.advisories.tail with
      | [] => { s with sd.advisories := [], sd.holdTimer := .stopped }
      | rest => { s with sd.advisories := rest, sd.holdTimer := .counting 0, sd.holdTime := s.sd.settings.advisoryHold } := by
  refine (ite_due due).trans ?_
  cases s.sd.advisories.tail <;> rfl

theorem State.queueAdvisory_some (x : Advisory) (some : s.sd.advisories ≠ []) :
    s.queueAdvisory x = { s with sd.advisories := withAdvisory x s.sd.advisories } := by
  rw [State.queueAdvisory_eq]
  unfold Sd.advised
  simp only [if_neg some]

/-- The bits of a byte, most significant first. -/
def bitsMsbFirst (b : Byte) : List Bool := (List.range 8).map fun k => b.getLsbD (7 - k)

theorem bitsMsbFirst_getD (b : Byte) {k : Nat} (hk : k < 8) : (bitsMsbFirst b).getD k false = b.getLsbD (7 - k) := by
  unfold bitsMsbFirst
  rw [List.getD_eq_getElem _ _ (by simpa using hk)]
  simp

theorem length_flatMap_bitsMsbFirst (bs : List Byte) : (bs.flatMap bitsMsbFirst).length = 8 * bs.length := by
  simp [List.length_flatMap, bitsMsbFirst, Nat.mul_comm]

/-- Bit k of bytes sent most significant bit first is bit 7 − k % 8 of byte k / 8. -/
theorem flatMap_bitsMsbFirst_getD (bs : List Byte) {k : Nat} (hk : k < 8 * bs.length) :
    (bs.flatMap bitsMsbFirst).getD k false = (bs.getD (k / 8) 0).getLsbD (7 - k % 8) := by
  induction bs generalizing k with
  | nil => exact absurd hk (Nat.not_lt_zero k)
  | cons b bs ih =>
    rw [List.flatMap_cons]
    obtain first | later := Nat.lt_or_ge k 8
    · rw [List.getD_append _ _ _ _ (by simpa [bitsMsbFirst] using first), bitsMsbFirst_getD b first, Nat.div_eq_of_lt first,
        Nat.mod_eq_of_lt first]
      rfl
    · obtain ⟨j, rfl⟩ := Nat.exists_eq_add_of_le later
      rw [List.getD_append_right _ _ _ _ (by simp [bitsMsbFirst])]
      rw [show 8 + j - (bitsMsbFirst b).length = j by simp [bitsMsbFirst], ih (by simp at hk; omega), Nat.add_div_left j (by decide),
        Nat.add_mod_left]
      rfl

theorem Sd.stdat_sending {d : Sd} {frame : List Byte} (sending : d.sending = true) (snapshot : d.snapshot = some frame) :
    d.stdat = frame.flatMap bitsMsbFirst := by
  unfold Sd.stdat
  rw [if_pos sending, snapshot]
  rfl

/-- Settles O28: each timer at its expiry and before it, and the bits of a send. -/
theorem stripTimers : Obligations.StripTimers := by
  unfold Obligations.StripTimers
  refine fun s hs => ⟨fun due => ?refresh, fun early => ?early, live_not_held _ hs, fun due => ?blink, fun early => ?earlyBlink,
    fun x alone due => ?last, fun x y rest more due => ?next, fun early => ?earlyHold, fun x => ⟨fun none => ?first, fun some =>
      State.queueAdvisory_some x some, fun idle => if_neg (by rw [idle]; exact Bool.false_ne_true), fun frame sending snapshot => ?bits⟩⟩
  case refresh => exact live_eq hs (ite_due due)
  case early => exact live_eq hs (ite_early early)
  case blink => exact live_eq hs (ite_due due)
  case earlyBlink => exact live_eq hs (ite_early early)
  case last =>
    refine live_eq hs ?_
    rw [State.advisoryExpiry_due due, alone]; rfl
  case next =>
    refine live_eq hs ?_
    rw [State.advisoryExpiry_due due, more]; rfl
  case earlyHold => exact live_eq hs (ite_early early)
  case first => unfold State.queueAdvisory; rw [none]
  case bits =>
    rw [Sd.stdat_sending sending snapshot]
    exact ⟨length_flatMap_bitsMsbFirst frame, fun k hk => flatMap_bitsMsbFirst_getD frame hk⟩

end

end Sys2Proof.Machine
end

section
/-! The ticks of the lines, the line update, and a LINES record that takes effect (R18, R19, R22 to R28). -/

namespace Sys2Proof.Machine

open Sys2Proof

/-! ### Watches (R27, R28) -/

/-- An evaluation raises an event exactly when R27 says so. -/
theorem Watch.fires_iff (w : Watch) (before after : BitVec 8) : w.fires before after = true ↔ w.eventRaised before after := by
  unfold Watch.fires Watch.eventRaised
  cases w.mode with
  | off => exact ⟨nofun, nofun⟩
  | matching m =>
    dsimp only
    rw [Bool.and_eq_true, Watch.inMatch_iff, Bool.not_eq_true']
  | change =>
    dsimp only
    rw [levels_meet_iff]
    simp only [BitVec.getLsbD_xor, Bool.xor_iff_ne]
    constructor
    · rintro ⟨k, differ, masked⟩; exact ⟨k.val, k.isLt, masked, differ.symm⟩
    · rintro ⟨k, lt, masked, differ⟩; exact ⟨⟨k, lt⟩, differ.symm, masked⟩

/-- The model's evaluation of a watch is that of R27 and R28. -/
theorem Watch.evaluate_follows (w : Watch) (before after : BitVec 8) : w.follows (w.evaluate before after) before after := by
  have mode : (w.evaluate before after).mode = w.modeAfter after := by unfold Watch.evaluate; split <;> rfl
  refine ⟨?_, ?_, fun raised => ?_, fun quiet => ?_, ?_⟩
  · unfold Watch.evaluate; split <;> rfl
  · unfold Watch.evaluate; split <;> rfl
  · unfold Watch.evaluate
    rw [if_pos ((w.fires_iff before after).mpr raised)]
    exact ⟨rfl, rfl⟩
  · unfold Watch.evaluate
    rw [if_neg (mt (w.fires_iff before after).mp quiet)]
    exact ⟨rfl, rfl⟩
  · rw [mode]
    unfold Watch.modeAfter
    cases w.mode with
    | off => rfl
    | matching m => exact ⟨_, rfl, w.inMatch_iff after⟩
    | change => rfl

theorem State.evaluateWatch_spec (before after : BitVec 8) (p : Port) (s : State) :
    ∃ e, s.evaluateWatch before after p =
        { s with lm.watch := s.lm.watch.set p ((s.lm.watch.get p).evaluate before after), ex.pending := e }
      ∧ (∀ q n, (s.ex.pending.get q).getLsbD n = true → (e.get q).getLsbD n = true)
      ∧ ((s.lm.watch.get p).fires before after = true → (e.get p).getLsbD 13 = true) := by
  unfold State.evaluateWatch
  dsimp only
  split
  next fires =>
    exact ⟨_, rfl, raise_notes p .lineWatch
      { s with lm.watch := s.lm.watch.set p ((s.lm.watch.get p).evaluate before after) }, fun _ => raise_isPending p .lineWatch _⟩
  next quiet => exact ⟨_, rfl, fun _ _ h => h, fun fires => absurd fires quiet⟩

/-- Both watches are evaluated once, on the same levels. -/
theorem State.evaluateWatches_spec (before after : BitVec 8) (s : State) :
    ∃ w e, s.evaluateWatches before after = { s with lm.watch := w, ex.pending := e }
      ∧ (∀ p, w.get p = (s.lm.watch.get p).evaluate before after)
      ∧ (∀ p n, (s.ex.pending.get p).getLsbD n = true → (e.get p).getLsbD n = true)
      ∧ ∀ p, (s.lm.watch.get p).eventRaised before after → (e.get p).getLsbD 13 = true := by
  unfold State.evaluateWatches
  obtain ⟨e, first, keeps, raised⟩ := s.evaluateWatch_spec before after .a
  rw [first]
  obtain ⟨e', second, keeps', raised'⟩ := State.evaluateWatch_spec before after .b
    { s with lm.watch := s.lm.watch.set .a ((s.lm.watch.get .a).evaluate before after), ex.pending := e }
  rw [second]
  refine ⟨_, e', rfl, fun p => ?_, fun p n h => keeps' p n (keeps p n h), fun p fired => ?_⟩
  · cases p <;> rfl
  · rw [← Watch.fires_iff] at fired
    cases p with
    | a => exact keeps' .a 13 (raised fired)
    | b => exact raised' fired

/-! ### The level functions and their receivers (R22) -/

/-- The level functions are those that follow from the levels and the settings (R22). -/
def State.functionsFollow (s : State) : Prop :=
  (s.lm.levels.park = true ↔ s.fnActive .park) ∧ (s.lm.levels.dumpSwitch = true ↔ s.fnActive .dumpSwitch)
    ∧ (s.lm.levels.lights = true ↔ s.fnActive .lights)

theorem State.functionsFollow_of_levels {s : State} (h : s.lm.levels = s.lm.computedLevels) : s.functionsFollow := by
  unfold State.functionsFollow
  rw [← State.lineSet_meets_iff, ← State.lineSet_meets_iff, ← State.lineSet_meets_iff, h]
  exact ⟨Iff.rfl, Iff.rfl, Iff.rfl⟩

/-- What the receivers of the level functions record of a change from `old` to `now` (R22). -/
structure State.Records (old now : FnLevels) (s t : State) : Prop where
  park : t.ct.park = if now.park = old.park then s.ct.park else now.park
  switchKept : now.dumpSwitch = old.dumpSwitch ∧ now.dumpConfigured = old.dumpConfigured →
    t.ct.dumpSwitch = s.ct.dumpSwitch ∧ t.ct.dumpConfigured = s.ct.dumpConfigured
  switchChanged : now.dumpSwitch ≠ old.dumpSwitch ∨ now.dumpConfigured ≠ old.dumpConfigured →
    t.ct.dumpSwitch = now.dumpSwitch ∧ t.ct.dumpConfigured = now.dumpConfigured
  lights : t.sd.lights = if now.lights = old.lights then s.sd.lights else now.lights

/-- The hand-over of PARK, the first of the changes handed on. -/
def State.parkHanded (old now : FnLevels) (s : State) : State :=
  if now.park = old.park then { s with lm.levels := now } else State.parkChange now.park { s with lm.levels := now }

/-- The hand-over of DUMP_SWITCH, the second of the changes. -/
def State.switchHanded (old now : FnLevels) (s : State) : State :=
  if now.dumpSwitch = old.dumpSwitch ∧ now.dumpConfigured = old.dumpConfigured then s
  else s.dumpSwitchChange now.dumpSwitch now.dumpConfigured

theorem State.handedFrom_eq (old now : FnLevels) (s : State) :
    s.handedFrom old now =
      if now.lights = old.lights then (s.parkHanded old now).switchHanded old now
      else { (s.parkHanded old now).switchHanded old now with sd.lights := now.lights } := rfl

theorem State.parkHanded_copies (old now : FnLevels) (s : State) :
    (s.parkHanded old now).ct.park = (if now.park = old.park then s.ct.park else now.park)
      ∧ (s.parkHanded old now).ct.dumpSwitch = s.ct.dumpSwitch ∧ (s.parkHanded old now).ct.dumpConfigured = s.ct.dumpConfigured
      ∧ (s.parkHanded old now).sd.lights = s.sd.lights := by
  unfold State.parkHanded
  split
  next same => exact ⟨rfl, rfl, rfl, rfl⟩
  next differ =>
    obtain ⟨park, switch, configured⟩ := State.parkChange_lines now.park { s with lm.levels := now }
    obtain ⟨_, _, _, _, _, _, _, _, _, e⟩ := State.parkChange_frame now.park { s with lm.levels := now }
    exact ⟨park, switch, configured, by rw [e]⟩

theorem State.switchHanded_copies (old now : FnLevels) (s : State) :
    (s.switchHanded old now).ct.park = s.ct.park ∧ (s.switchHanded old now).sd = s.sd
      ∧ (now.dumpSwitch = old.dumpSwitch ∧ now.dumpConfigured = old.dumpConfigured → s.switchHanded old now = s)
      ∧ (¬(now.dumpSwitch = old.dumpSwitch ∧ now.dumpConfigured = old.dumpConfigured) →
        (s.switchHanded old now).ct.dumpSwitch = now.dumpSwitch
          ∧ (s.switchHanded old now).ct.dumpConfigured = now.dumpConfigured) := by
  unfold State.switchHanded
  split
  next same => exact ⟨rfl, rfl, fun _ => rfl, fun differ => absurd same differ⟩
  next differ =>
    obtain ⟨park, switch, configured⟩ := State.dumpSwitchChange_lines now.dumpSwitch now.dumpConfigured s
    obtain ⟨_, e⟩ := State.dumpSwitchChange_frame now.dumpSwitch now.dumpConfigured s
    exact ⟨park, by rw [e], fun same => absurd same differ, fun _ => ⟨switch, configured⟩⟩

theorem State.records_handedFrom (old now : FnLevels) (s : State) : s.Records old now (s.handedFrom old now) := by
  obtain ⟨park, switch, configured, lit⟩ := s.parkHanded_copies old now
  obtain ⟨park', strip, kept, changed⟩ := (s.parkHanded old now).switchHanded_copies old now
  have ct : (s.handedFrom old now).ct = ((s.parkHanded old now).switchHanded old now).ct := by
    rw [State.handedFrom_eq]; split <;> rfl
  have lights : (s.handedFrom old now).sd.lights = if now.lights = old.lights then s.sd.lights else now.lights := by
    rw [State.handedFrom_eq]
    split
    · rw [strip, lit]
    · rfl
  refine ⟨by rw [ct, park', park], fun same => ?_, fun differ => ?_, lights⟩
  · rw [ct, kept same]; exact ⟨switch, configured⟩
  · rw [ct]; exact changed (not_and_or.mpr differ)

/-- No hand-over of a level touches the WEIGH record in force and the zero trim. -/
theorem State.handLevels_weigh (s : State) : s.handLevels.we.weigh = s.we.weigh ∧ s.handLevels.we.zt = s.we.zt := by
  have parked : ∀ b (t : State), (t.parkChange b).we.weigh = t.we.weigh ∧ (t.parkChange b).we.zt = t.we.zt := fun b t => by
    unfold State.parkChange
    dsimp only
    split
    · by_cases weighing : t.ct.tracker = .weighing
      · rw [State.abortIfWeighing_weighing (by exact weighing), State.abortWeigh_eq]; exact ⟨rfl, rfl⟩
      · rw [State.abortIfWeighing_other (by exact weighing)]; exact ⟨rfl, rfl⟩
    · exact ⟨rfl, rfl⟩
  have switched : ∀ a b (t : State), (t.dumpSwitchChange a b).we = t.we := fun a b t => by
    obtain ⟨_, e⟩ := State.dumpSwitchChange_frame a b t
    rw [e]
  rw [handLevels_eq_handedFrom, State.handedFrom_eq]
  unfold State.switchHanded State.parkHanded
  split_ifs <;> simp only [parked, switched, and_self]

/-! ### The tick (R18, R19) -/

theorem PaceRate.periodTicks_eq (r : PaceRate) :
    r.periodTicks = match r with
      | .hz50 => 2
      | .hz100 => 1
      | _ => 0 := by
  cases r <;> rfl

/-- Settles O23: a later tick samples the lines, the first one takes their levels over. -/
theorem lineTicks : Obligations.LineTicks := by
  unfold Obligations.LineTicks
  refine ⟨fun levels s hs later => ?later, fun levels s hs first => ?first⟩
  case later =>
    have sampled : s.lineTick levels = { s.tickTimers with lm := s.lm.sample levels } := if_pos later
    refine ⟨_, live_eq hs sampled, rfl, fun k => Eight.get_tabulate _ _, ?_, ?_, rfl, rfl, rfl, rfl, rfl, rfl, rfl, rfl⟩
    · show (_ != 0) = true ↔ _
      rw [bne_iff_ne, levels_ne_zero_iff]
      exact exists_congr fun k => Lm.changing_getLsbD { s.tickTimers with lm := s.lm.sample levels } k
    · exact congrArg (fun n => { s.sp with lossTimer := s.sp.lossTimer.tick 25, pace := false, pacer := s.sp.pacer.tick n })
        s.sp.paceRate.periodTicks_eq
  case first =>
    have taken : s.lineTick levels = ({ s.tickTimers with lm := s.lm.firstSample levels } : State).handLevels :=
      if_neg (by rw [show s.tickTimers.lm.firstTick = s.lm.firstTick from rfl, first]; exact Bool.false_ne_true)
    have lm := State.handLevels_lm { s.tickTimers with lm := s.lm.firstSample levels }
    obtain ⟨park, switchKept, switchChanged, lights⟩ := State.records_handedFrom s.lm.levels (s.lm.firstSample levels).computedLevels
      { s.tickTimers with lm := s.lm.firstSample levels }
    obtain ⟨_, _, _, _, _, _, _, _, _, _, _, frame⟩ :=
      State.handLevels_frame { s.tickTimers with lm := s.lm.firstSample levels }
    have follow := State.functionsFollow_of_levels
      (s := ({ s.tickTimers with lm := s.lm.firstSample levels } : State).handLevels) (by rw [lm]; rfl)
    obtain ⟨parkFollows, switchFollows, lightsFollow⟩ := follow
    refine ⟨_, live_eq hs taken, ?_, parkFollows, switchFollows, lightsFollow, ?_⟩
    · rw [lm]
      exact ⟨rfl, rfl, fun k => Eight.get_fill _ _, rfl, rfl, rfl, rfl⟩
    · rw [show ({ s.tickTimers with lm := s.lm.firstSample levels } : State).handLevels.lm.levels =
        (s.lm.firstSample levels).computedLevels by rw [lm]]
      refine ⟨park, Lm.computedLevels_dumpConfigured _, switchKept, switchChanged, lights, ?_⟩
      rw [frame]
      exact ⟨rfl, rfl, rfl, rfl, rfl, rfl, rfl⟩

/-! ### The line update (R18) -/

/-- The state once a line update's levels are handed on and its function events taken, before the watches. -/
def State.linesTurned (s : State) : State :=
  State.takeEvents ((s.lm.settings.eventsOf (s.lm.update.active &&& ~~~s.lm.active)).length)
    (s.lm.settings.eventsOf (s.lm.update.active &&& ~~~s.lm.active)) ({ s with lm := s.lm.update } : State).handLevels

section

variable {s : State}

theorem Lm.changing_ne_zero_iff : s.lm.changing ≠ 0 ↔ ∃ k, s.lineTurns k := by
  rw [levels_ne_zero_iff]
  exact exists_congr (Lm.changing_getLsbD s)

theorem lineUpdate_turning (due : s.lm.updateDue = true) (turns : ∃ k, s.lineTurns k) :
    s.lineUpdate = s.linesTurned.evaluateWatches s.lm.active s.lm.update.active :=
  if_pos ⟨due, Lm.changing_ne_zero_iff.mpr turns⟩

theorem lineUpdate_quiet (h : ¬(s.lm.updateDue = true ∧ s.lm.changing ≠ 0)) :
    s.lineUpdate = { s with lm.updateDue := false } := if_neg h

/-- A line that turns takes its raw level and starts its count again, any other stays (R18). -/
theorem Lm.update_line (s : State) (k : Fin 8) :
    (s.lineTurns k → s.lm.update.debounced.getLsbD k.val = s.lm.raw.getLsbD k.val ∧ s.lm.update.diff.get k = 0)
      ∧ (¬s.lineTurns k →
        s.lm.update.debounced.getLsbD k.val = s.lm.debounced.getLsbD k.val ∧ s.lm.update.diff.get k = s.lm.diff.get k) := by
  have level : s.lm.update.debounced.getLsbD k.val = (s.lm.debounced.getLsbD k.val ^^ s.lm.changing.getLsbD k.val) :=
    BitVec.getLsbD_xor
  have count : s.lm.update.diff.get k = if s.lm.changing.getLsbD k.val then 0 else s.lm.diff.get k := Eight.get_tabulate _ _
  rw [level, count]
  constructor
  · intro turns
    rw [(Lm.changing_getLsbD s k).mpr turns, Bool.xor_true, if_pos rfl]
    exact ⟨(Bool.eq_not.mpr turns.1).symm, rfl⟩
  · intro stays
    rw [Bool.eq_false_iff.mpr (mt (Lm.changing_getLsbD s k).mp stays), Bool.xor_false, if_neg Bool.false_ne_true]
    exact ⟨rfl, rfl⟩

theorem linesTurned_lm (s : State) : s.linesTurned.lm = { s.lm.update with levels := s.lm.update.computedLevels } := by
  obtain ⟨_, _, _, _, _, _, _, _, _, _, _, _, _, events⟩ := State.takeEvents_frame
    (s.lm.settings.eventsOf (s.lm.update.active &&& ~~~s.lm.active)).length
    (s.lm.settings.eventsOf (s.lm.update.active &&& ~~~s.lm.active)) ({ s with lm := s.lm.update } : State).handLevels
  have handed := State.handLevels_lm { s with lm := s.lm.update }
  unfold State.linesTurned
  rw [events]
  exact handed

theorem linesTurned_we (s : State) : s.linesTurned.we.weigh = s.we.weigh ∧ s.linesTurned.we.zt = s.we.zt := by
  obtain ⟨_, _, _, _, _, _, _, _, _, _, _, _, _, events⟩ := State.takeEvents_frame
    (s.lm.settings.eventsOf (s.lm.update.active &&& ~~~s.lm.active)).length
    (s.lm.settings.eventsOf (s.lm.update.active &&& ~~~s.lm.active)) ({ s with lm := s.lm.update } : State).handLevels
  have handed := State.handLevels_weigh { s with lm := s.lm.update }
  unfold State.linesTurned
  rw [events]
  exact handed

/-- Of two function events either is taken first (R23). -/
theorem takeEvents_two (e f : LineEvent) (s : State) :
    State.takeEvents 2 [e, f] s = (({ s with choices := s.choices + 1 }).takeEvent e).takeEvent f
      ∨ State.takeEvents 2 [e, f] s = (({ s with choices := s.choices + 1 }).takeEvent f).takeEvent e := by
  have picked : State.takeEvents 2 [e, f] s = State.takeEvents 1 ([e, f].eraseIdx (Config.pickEvent s.choices % 2))
      (({ s with choices := s.choices + 1 }).takeEvent ([e, f].getD (Config.pickEvent s.choices % 2) e)) := rfl
  rw [picked]
  obtain first | second := Nat.mod_two_eq_zero_or_one (Config.pickEvent s.choices)
  · left; rw [first]; rfl
  · right; rw [second]; rfl

end

/-- Settles O24: an update that is not due, one at which no line turns, and one at which some line turns. -/
theorem linesInOneUpdate : Obligations.LinesInOneUpdate := by
  unfold Obligations.LinesInOneUpdate
  refine ⟨fun s hs => ⟨fun idle => ?idle, fun quiet => ?quiet, fun due turns => ?turning⟩, takeEvents_two⟩
  case idle =>
    refine live_eq hs ((lineUpdate_quiet fun h => by rw [idle] at h; exact Bool.false_ne_true h.1).trans ?_)
    rw [← idle]
  case quiet => exact live_eq hs (lineUpdate_quiet fun h => absurd (Lm.changing_ne_zero_iff.mp h.2) (not_exists.mpr quiet))
  case turning =>
    obtain ⟨w, e, evaluated, watches, -, events⟩ := s.linesTurned.evaluateWatches_spec s.lm.active s.lm.update.active
    have lm := linesTurned_lm s
    have watch : s.linesTurned.lm.watch = s.lm.watch := by rw [lm]; rfl
    have update := lineUpdate_turning due turns
    obtain ⟨parkFollows, switchFollows, lightsFollow⟩ := State.functionsFollow_of_levels (s := s.lineUpdate) (by
      rw [update, evaluated]
      show s.linesTurned.lm.levels = Lm.computedLevels { s.linesTurned.lm with watch := w }
      rw [lm]; rfl)
    have we := linesTurned_we s
    have active : s.lineUpdate.lm.active = s.lm.update.active := by
      rw [update, evaluated]
      exact (congrArg Lm.active lm :)
    have line := Lm.update_line s
    have lmAfter : s.lineUpdate.lm = { s.lm.update with levels := s.lm.update.computedLevels, watch := w } := by
      rw [update, evaluated]
      exact congrArg (fun m : Lm => { m with watch := w }) lm
    have weigh : s.lineUpdate.we.weigh = s.we.weigh ∧ s.lineUpdate.we.zt = s.we.zt := by rw [update, evaluated]; exact we
    have pending : s.lineUpdate.ex.pending = e := by rw [update, evaluated]
    obtain ⟨_, _, _, _, _, _, _, _, _, _, _, _, _, _, _, frame⟩ := State.lineUpdate_frame s
    refine ⟨_, live_not_held _ hs, ?_, ?_, ?_, fun k => ?_, parkFollows, switchFollows, lightsFollow, fun p => ?_, fun p raised => ?_, ?_⟩
    · rw [lmAfter]; rfl
    · rw [lmAfter]; rfl
    · rw [lmAfter]; rfl
    · rw [lmAfter]; exact line k
    · rw [active, lmAfter]
      show (s.lm.watch.get p).follows (w.get p) _ _
      rw [watches p, watch]
      exact Watch.evaluate_follows _ _ _
    · rw [active] at raised
      rw [pending]
      exact events p (by rw [watch]; exact raised)
    · obtain ⟨weigh, trim⟩ := weigh
      rw [weigh, trim, frame]
      exact ⟨rfl, rfl, rfl, rfl, rfl, rfl, rfl⟩

/-! ### A LINES record (R24, R25) -/

theorem getD_map_toList {α : Type} (f : α → Bool) (v : Eight α) (k : Fin 8) : (v.toList.map f).getD k.val false = f (v.get k) := by
  fin_cases k <;> rfl

theorem lineFnOf_some {c : Byte} (h : c.toNat ≤ 8) : ∃ f, lineFnOf c = some f ∧ f.code = c := by
  rw [show c = BitVec.ofNat 8 c.toNat by simp]
  interval_cases c.toNat <;> exact ⟨_, rfl, rfl⟩

theorem lineFnOf_none {c : Byte} (h : 8 < c.toNat) : lineFnOf c = none := by
  unfold lineFnOf
  generalize c.toNat = n at h
  match n, h with
  | n + 9, _ => rfl

theorem isSome_lineFnOf_iff (c : Byte) : (lineFnOf c).isSome = true ↔ c.toNat ≤ 8 := by
  obtain lt | le := Nat.lt_or_ge 8 c.toNat
  · simp [lineFnOf_none lt, lt]
  · obtain ⟨f, some, -⟩ := lineFnOf_some le
    simp [some, le]

theorem debouncePasses_iff (c : Byte) : debouncePasses c = true ↔ 10 ≤ c.toNat ∧ c.toNat ≤ 250 ∧ c.toNat % 10 = 0 := by
  unfold debouncePasses
  rw [Bool.and_eq_true, natInRange_iff, beq_iff_eq, and_assoc]

/-- What field `i` of a LINES record has to meet (R24). -/
def linesFieldOk (w : LinesWire) (i : Fin 24) : Prop :=
  if i.val < 8 then (w.funcs.get ⟨i.val % 8, Nat.mod_lt _ (by decide)⟩).toNat ≤ 8
  else if i.val < 16 then (w.polarities.get ⟨i.val % 8, Nat.mod_lt _ (by decide)⟩).toNat ≤ 1
  else
    10 ≤ (w.debounce.get ⟨i.val % 8, Nat.mod_lt _ (by decide)⟩).toNat
      ∧ (w.debounce.get ⟨i.val % 8, Nat.mod_lt _ (by decide)⟩).toNat ≤ 250
      ∧ (w.debounce.get ⟨i.val % 8, Nat.mod_lt _ (by decide)⟩).toNat % 10 = 0

/-- The 24 checks of a LINES record, in index order. -/
def linesChecks (w : LinesWire) : List Bool :=
  w.funcs.toList.map (fun c => (lineFnOf c).isSome) ++ w.polarities.toList.map (fun c => (boolOf c).isSome)
    ++ w.debounce.toList.map debouncePasses

theorem linesFirstBad_eq (w : LinesWire) : linesFirstBad w = firstFailing (linesChecks w) := rfl

theorem linesChecks_getD_iff (w : LinesWire) (i : Fin 24) : (linesChecks w).getD i.val false = true ↔ linesFieldOk w i := by
  obtain ⟨i, lt⟩ := i
  have lengths : w.funcs.toList.length = 8 ∧ w.polarities.toList.length = 8 := ⟨rfl, rfl⟩
  obtain ⟨lengthFuncs, lengthPolarities⟩ := lengths
  unfold linesChecks linesFieldOk
  dsimp only
  obtain function | rest := Nat.lt_or_ge i 8
  · rw [if_pos function, List.getD_append _ _ _ _ (by simp [lengthFuncs, lengthPolarities]; omega),
      List.getD_append _ _ _ _ (by simp [lengthFuncs]; omega), ← isSome_lineFnOf_iff]
    simp only [Nat.mod_eq_of_lt function]
    rw [getD_map_toList _ _ ⟨i, function⟩]
  rw [if_neg (by omega)]
  obtain polarity | time := Nat.lt_or_ge i 16
  · obtain ⟨j, rfl⟩ := Nat.exists_eq_add_of_le rest
    have below : j < 8 := by omega
    rw [if_pos polarity, List.getD_append _ _ _ _ (by simp [lengthFuncs, lengthPolarities]; omega),
      List.getD_append_right _ _ _ _ (by simp [lengthFuncs])]
    simp only [List.length_map, lengthFuncs, Nat.add_sub_cancel_left, Nat.add_mod_left, Nat.mod_eq_of_lt below]
    rw [getD_map_toList _ _ ⟨j, below⟩, isSome_boolOf_iff, Nat.not_lt]
  · obtain ⟨j, rfl⟩ := Nat.exists_eq_add_of_le time
    have below : j < 8 := by omega
    rw [if_neg (by omega), List.getD_append_right _ _ _ _ (by simp [lengthFuncs, lengthPolarities])]
    have index : (16 + j) % 8 = j := by omega
    simp only [List.length_append, List.length_map, lengthFuncs, lengthPolarities, Nat.reduceAdd, Nat.add_sub_cancel_left, index]
    rw [getD_map_toList _ _ ⟨j, below⟩, debouncePasses_iff]

/-- The record that a record area of good fields spells. -/
theorem linesOfWire_line {w : LinesWire} (good : ∀ i, linesFieldOk w i) (k : Fin 8) :
    ((linesOfWire w).funcs.get k).code = w.funcs.get k
      ∧ ((linesOfWire w).inverted.getLsbD k.val = true ↔ w.polarities.get k = 1)
      ∧ (linesOfWire w).debounce.get k = (w.debounce.get k).toNat := by
  have function : (w.funcs.get k).toNat ≤ 8 := by
    have ok := good ⟨k.val, by omega⟩
    unfold linesFieldOk at ok
    simpa only [if_pos k.isLt, Nat.mod_eq_of_lt k.isLt] using ok
  have polarity : (w.polarities.get k).toNat ≤ 1 := by
    have ok := good ⟨8 + k.val, by omega⟩
    unfold linesFieldOk at ok
    simpa only [if_neg (show ¬8 + k.val < 8 by omega), if_pos (show 8 + k.val < 16 by omega), Nat.add_mod_left,
      Nat.mod_eq_of_lt k.isLt] using ok
  unfold linesOfWire
  rw [Eight.get_tabulate, Eight.get_tabulate, levelsOf_getLsbD]
  obtain ⟨f, some, code⟩ := lineFnOf_some function
  refine ⟨by rw [some]; exact code, ?_, rfl⟩
  rw [boolOf_eq, if_neg (Nat.not_lt.mpr polarity)]
  exact decide_eq_true_iff

/-- What a LINES record that takes effect leaves (R25). -/
theorem applyLines_spec (r : LinesRec) (s : State) :
    (∃ w, (s.applyLines r).lm =
        { s.lm with settings := r, levels := (s.applyLines r).lm.levels, watch := w }
      ∧ ((s.applyLines r).lm.active = s.lm.active → w = s.lm.watch)
      ∧ ((s.applyLines r).lm.active ≠ s.lm.active →
        ∀ q, (s.lm.watch.get q).follows (w.get q) s.lm.active (s.applyLines r).lm.active))
      ∧ (s.applyLines r).functionsFollow
      ∧ (s.applyLines r).we.weigh = s.we.weigh ∧ (s.applyLines r).we.zt = s.we.zt
      ∧ (s.applyLines r).sd.text = s.sd.text ∧ (s.applyLines r).cu = { s.cu with cal := (s.applyLines r).cu.cal }
      ∧ (s.applyLines r).lt = s.lt ∧ (s.applyLines r).ex.slots = s.ex.slots ∧ (s.applyLines r).ex.storeOrder = s.ex.storeOrder
      ∧ (s.applyLines r).lq.queue = s.lq.queue ∧ (s.applyLines r).ports = s.ports := by
  have lm := State.handLevels_lm { s with lm.settings := r }
  have weigh := State.handLevels_weigh { s with lm.settings := r }
  have rest : ∀ t : State, t = ({ s with lm.settings := r } : State).handLevels →
      t.sd.text = s.sd.text ∧ t.cu = { s.cu with cal := t.cu.cal } ∧ t.lt = s.lt ∧ t.ex.slots = s.ex.slots
        ∧ t.ex.storeOrder = s.ex.storeOrder ∧ t.lq.queue = s.lq.queue ∧ t.ports = s.ports := by
    rintro t rfl
    obtain ⟨_, _, _, _, _, _, _, _, _, _, _, frame⟩ := State.handLevels_frame { s with lm.settings := r }
    rw [frame]
    exact ⟨rfl, rfl, rfl, rfl, rfl, rfl, rfl⟩
  generalize handed : ({ s with lm.settings := r } : State).handLevels = t at lm weigh rest
  obtain ⟨text, cu, lt, slots, order, queue, ports⟩ := rest t rfl
  have active : t.lm.active = Lm.active { s.lm with settings := r } := by rw [lm]; rfl
  have follow : t.functionsFollow := State.functionsFollow_of_levels (by rw [lm]; rfl)
  by_cases same : s.lm.active = t.lm.active
  · have applied : s.applyLines r = t := (if_pos (by rw [← active]; exact same)).trans handed
    rw [applied]
    exact ⟨⟨s.lm.watch, by rw [lm], fun _ => rfl, fun differ => absurd same.symm differ⟩, follow, weigh.1, weigh.2, text, cu, lt, slots,
      order, queue, ports⟩
  · obtain ⟨w, e, evaluated, watches, -, -⟩ := t.evaluateWatches_spec s.lm.active t.lm.active
    have applied : s.applyLines r = { t with lm.watch := w, ex.pending := e } := by
      rw [← evaluated, active, ← handed]
      exact if_neg (by rw [← active]; exact same)
    rw [applied]
    refine ⟨⟨w, ?_, fun h => absurd h.symm same, fun _ q => ?_⟩, follow, weigh.1, weigh.2, text, cu, lt, slots, order, queue, ports⟩
    · show { t.lm with watch := w } = { s.lm with settings := r, levels := t.lm.levels, watch := w }
      rw [lm]
    · rw [watches q, show t.lm.watch = s.lm.watch by rw [lm]]
      exact Watch.evaluate_follows _ _ _

theorem answered_ports (p : Port) (r : ResultCode) (b : List Byte) (s : State) :
    (s.answered p r b).ports = s.ports.set p ((s.answered p r b).ports.get p) :=
  congrArg (s.ports.set p) (PerPort.get_set_same s.ports p _).symm

/-- Settles O27: the first field that fails, or the record taken. -/
theorem linesWrite : Obligations.LinesWrite := by
  unfold Obligations.LinesWrite
  refine fun p w s hs => ⟨fun i bad before => ?bad, fun good => ?good⟩
  case bad =>
    have first : linesFirstBad w = some i.val :=
      (linesFirstBad_eq w).trans (firstFailing_eq_some (checks := linesChecks w) rfl (linesChecks_getD_iff w) bad before)
    refine live_takeOrder_of_eq hs ?_
    rw [orderWriteLines, first]; rfl
  case good =>
    have passes : linesFirstBad w = none :=
      (linesFirstBad_eq w).trans (firstFailing_eq_none_of (checks := linesChecks w) rfl (linesChecks_getD_iff w) good)
    have written : orderWriteLines w s = Answer.done (s.applyLines (linesOfWire w)) := by rw [orderWriteLines, passes]
    obtain ⟨⟨v, lm, kept, followed⟩, ⟨park, switch, lights⟩, weigh, trim, text, cu, lt, slots, order, queue, ports⟩ :=
      applyLines_spec (linesOfWire w) s
    refine ⟨_, live_takeOrder_of_eq hs written, ?_, ?_, park, switch, lights, ?_, ?_, ?_, text, weigh, trim, cu, lt, slots, ?_, queue, ?_⟩
    · intro k
      rw [show ((s.applyLines (linesOfWire w)).answered p .ok []).lm.settings = linesOfWire w from (congrArg Lm.settings lm :)]
      exact linesOfWire_line good k
    · exact ⟨(congrArg Lm.raw lm :), (congrArg Lm.debounced lm :), (congrArg Lm.diff lm :)⟩
    · exact fun same => (congrArg Lm.watch lm : _).trans (kept same)
    · intro differ q
      rw [show ((s.applyLines (linesOfWire w)).answered p .ok []).lm.watch = v from (congrArg Lm.watch lm :)]
      exact followed differ q
    · exact (answered_ports p .ok [] (s.applyLines (linesOfWire w))).trans (by rw [ports])
    · exact order
    · exact congrArg Lp.reply (PerPort.get_set_same (s.applyLines (linesOfWire w)).ports p _)

end Sys2Proof.Machine
end

section
/-! One line pressed or released, by the function of its line (R22, R23, R33, R44, R47, R98, R99, R106, R107, R163). -/

namespace Sys2Proof.Machine

open Sys2Proof

/-! ### What each receiver does -/

section

variable (s : State)

theorem Lt.held_none {l : Lt} (h : l.held = none) : { l with held := none } = l := by rw [← h]

/-- A TIP_OFF event (R98). -/
theorem tipOff_spec :
    s.tipOff.lt = { s.lt with held := s.lt.held.map fun x => { x with flags := { x.flags with tipped := true } } }
      ∧ s.tipOff.lq = s.lq ∧ s.tipOff.ct = s.ct ∧ s.tipOff.we = s.we ∧ s.tipOff.cu = s.cu
      ∧ s.tipOff.sd.advisories = if s.lt.held = none then s.sd.advisories else withAdvisory .reWeigh s.sd.advisories := by
  unfold State.tipOff
  cases held : s.lt.held with
  | none => exact ⟨(Lt.held_none held).symm, rfl, rfl, rfl, rfl, rfl⟩
  | some x =>
    dsimp only
    rw [State.queueAdvisory_eq]
    exact ⟨rfl, rfl, rfl, rfl, rfl, rfl⟩

/-- A DISCARD event (R99). -/
theorem discardPass_spec :
    s.discardPass.lt = { s.lt with held := none }
      ∧ s.discardPass.lq = (if s.lt.held = none then s.lq
          else { s.lq with counters.discarded := min 65535 (s.lq.counters.discarded + 1) })
      ∧ s.discardPass.ct = s.ct ∧ s.discardPass.we = s.we ∧ s.discardPass.cu = s.cu ∧ s.discardPass.sd = s.sd := by
  unfold State.discardPass
  cases held : s.lt.held with
  | none => exact ⟨(Lt.held_none held).symm, rfl, rfl, rfl, rfl, rfl⟩
  | some x => exact ⟨rfl, rfl, rfl, rfl, rfl, rfl⟩

variable {s}

theorem undoPass_empty (h : s.lt.load.passes = []) : s.undoPass = s := by
  unfold State.undoPass; rw [h]; rfl

/-- An UNDO event on a load whose newest pass is `e` (R106). -/
theorem undoPass_some {rest : List PassEntry} {e : PassEntry} (h : s.lt.load.passes = rest ++ [e]) :
    s.undoPass.lt.load = { s.lt.load with
        passes := rest, total := s.lt.load.total - e.credited
        duration := if rest = [] then 0 else s.lt.load.duration, state := s.undoPass.lt.load.state }
      ∧ s.undoPass.lt.load.state = loadStateOf s.lt.settings s.undoPass.lt.load ∧ s.undoPass.lt.held = s.lt.held
      ∧ s.undoPass.lt.durationTimer = (if rest = [] then .stopped else s.lt.durationTimer)
      ∧ s.undoPass.lq = { s.lq with counters.undone := min 65535 (s.lq.counters.undone + 1) } := by
  unfold State.undoPass
  rw [h, List.getLast?_concat]
  dsimp only
  rw [List.dropLast_concat]
  refine ⟨?_, loadStateOf_congr _ rfl rfl rfl, rfl, ?_, rfl⟩ <;> simp [State.countUndo, State.recomputeLoad]

theorem undoPass_rest (s : State) :
    s.undoPass.ct = s.ct ∧ s.undoPass.we = s.we ∧ s.undoPass.cu = s.cu ∧ s.undoPass.sd = s.sd := by
  unfold State.undoPass
  split <;> exact ⟨rfl, rfl, rfl, rfl⟩

theorem nextTruckEvent_empty (h : s.lt.load.passes = []) : s.nextTruckEvent = s := by
  unfold State.nextTruckEvent; rw [if_pos (by rw [h]; rfl)]

theorem nextTruckEvent_some (h : s.lt.load.passes ≠ []) : s.nextTruckEvent = s.closeLoad .button := by
  unfold State.nextTruckEvent; rw [if_neg (by simpa using h)]

theorem nextTruckEvent_rest (s : State) :
    s.nextTruckEvent.ct = s.ct ∧ s.nextTruckEvent.we = s.we ∧ s.nextTruckEvent.cu = s.cu := by
  unfold State.nextTruckEvent
  split
  · exact ⟨rfl, rfl, rfl⟩
  · rw [State.closeLoad_eq]; exact ⟨rfl, rfl, rfl⟩

theorem ackMessage_hidden (h : s.onDisplay = none) : s.ackMessage = s := by
  unfold State.ackMessage; rw [h]

/-- An ACK_MSG event with a message on display (R163). -/
theorem ackMessage_shown {p : Port} {m : Message} (display : s.onDisplay = some p) (slot : s.ex.slots.get p = some m) :
    s.ackMessage.ex.slots = s.ex.slots.set p (some { m with acked := true })
      ∧ (s.ackMessage.ex.pending.get p).getLsbD 12 = true := by
  have acked : s.ackMessage = ({ s with ex := s.ex.acknowledge p } : State).raise p .msgAcked := by
    unfold State.ackMessage; rw [display]
  have stored : s.ex.acknowledge p = { s.ex with slots := s.ex.slots.set p (some { m with acked := true }) } := by
    unfold Ex.acknowledge; rw [slot]
  rw [acked, stored]
  exact ⟨rfl, raise_isPending p .msgAcked _⟩

theorem ackMessage_rest (s : State) :
    s.ackMessage.ex.storeOrder = s.ex.storeOrder ∧ s.ackMessage.ct = s.ct ∧ s.ackMessage.we = s.we ∧ s.ackMessage.cu = s.cu
      ∧ s.ackMessage.lt = s.lt ∧ s.ackMessage.lq = s.lq ∧ s.ackMessage.sd = s.sd := by
  obtain ⟨_, _, e⟩ := State.ackMessage_frame s
  rw [e]
  exact ⟨rfl, rfl, rfl, rfl, rfl, rfl, rfl⟩

theorem parkChange_inactive (s : State) : s.parkChange false = { s with ct.park := false } := by
  unfold State.parkChange
  dsimp only
  rw [if_neg fun h => Bool.false_ne_true h.1]

theorem parkChange_idle (h : s.ct.tracker = .stopped ∨ s.ct.tracker = .parked) :
    s.parkChange true = { s with ct.park := true } := by
  refine if_neg fun active => ?_
  obtain ⟨-, moves⟩ := active
  obtain tracker | tracker := h <;> rw [show ({ s with ct.park := true } : State).ct.tracker = s.ct.tracker from rfl, tracker] at moves <;>
    exact absurd moves (by decide)

/-- A PARK level that becomes active parks a cycle state that weighs nothing, and SENSOR_WAIT (R33). -/
theorem parkChange_parks (stopped : s.ct.tracker ≠ .stopped) (weighing : s.ct.tracker ≠ .weighing) (parked : s.ct.tracker ≠ .parked) :
    s.parkChange true = { s with ct := { s.ct with
      park := true, tracker := .parked, windowTimer := .stopped, dwellTimer := .stopped, belowStart := false } } := by
  have moves : s.ct.tracker.inCycle = true ∨ s.ct.tracker = .sensorWait := by
    cases tracker : s.ct.tracker with
    | stopped => exact absurd tracker stopped
    | parked => exact absurd tracker parked
    | sensorWait => exact .inr rfl
    | weighing | low | lifting | raised | dumping | returning => exact .inl rfl
  refine (if_pos ⟨rfl, moves⟩).trans ?_
  rw [State.abortIfWeighing_other (by exact weighing)]; rfl

theorem parkChange_weighing (weighing : s.ct.tracker = .weighing) :
    s.parkChange true = { ({ s with ct.park := true } : State).abortWeigh .park with
      sp.trace.mode := s.sp.trace.mode.ended
      ct := { (({ s with ct.park := true } : State).abortWeigh .park).ct.standDown with tracker := .parked } } := by
  refine (if_pos ⟨rfl, .inl (by rw [show ({ s with ct.park := true } : State).ct.tracker = s.ct.tracker from rfl, weighing]; rfl)⟩).trans ?_
  rw [State.abortIfWeighing_weighing (by exact weighing)]

theorem State.weighAborted.notices {t u : State} (h : s.weighAborted t) (ct : u.ct.abortCause = t.ct.abortCause)
    (timer : u.ct.windowTimer = .stopped) (high : u.ct.highTheta = none) (we : u.we = t.we) (cu : u.cu = t.cu) (lt : u.lt = t.lt)
    (lq : u.lq = t.lq) (pending : t.Notes u) : s.weighAborted u := by
  obtain ⟨cause, -, -, sums, kept, cal, tally, queue, raised⟩ := h
  exact ⟨by rw [ct]; exact cause, timer, high, by rw [we]; exact sums, by rw [we]; exact kept, by rw [cu]; exact cal, lt.trans tally,
    lq.trans queue, fun p => pending p 9 (raised p)⟩

/-- CT once it has recorded the level and the configured status of DUMP_SWITCH. -/
def Ct.withSwitch (level configured : Bool) (c : Ct) : Ct := { c with dumpSwitch := level, dumpConfigured := configured }

section

variable {theta phi : Int} (hasTheta : s.sp.liveTheta = some theta) (hasPhi : s.sp.livePhi = some phi) (level configured : Bool)

include hasTheta hasPhi

theorem dumpSwitchChange_carried (h : s.ct.tracker = .raised ∨ s.ct.tracker = .returning) :
    s.dumpSwitchChange level configured = { s with ct :=
      (s.ct.withSwitch level configured).followDump ((s.ct.withSwitch level configured).dumpCondition theta phi) } := by
  unfold State.dumpSwitchChange
  dsimp only
  rw [hasTheta, hasPhi]
  dsimp only
  split
  · rfl
  · rfl
  next dumping => rw [dumping] at h; exact absurd h (by decide)
  next raised returning _ => exact h.elim (absurd · raised) (absurd · returning)

theorem dumpSwitchChange_dumping (h : s.ct.tracker = .dumping) :
    s.dumpSwitchChange level configured =
      ({ s with ct := s.ct.withSwitch level configured } : State).judgeDumping theta phi := by
  unfold State.dumpSwitchChange
  dsimp only
  rw [hasTheta, hasPhi]
  dsimp only
  split
  next raised => rw [raised] at h; exact absurd h (by decide)
  next returning => rw [returning] at h; exact absurd h (by decide)
  · rfl
  next other => exact absurd h other

omit hasTheta hasPhi in
theorem dumpSwitchChange_other (raised : s.ct.tracker ≠ .raised) (returning : s.ct.tracker ≠ .returning)
    (dumping : s.ct.tracker ≠ .dumping) :
    s.dumpSwitchChange level configured = { s with ct := s.ct.withSwitch level configured } := by
  unfold State.dumpSwitchChange
  dsimp only
  split
  · split
    next h => exact absurd h raised
    next h => exact absurd h returning
    next h => exact absurd h dumping
    next => rfl
  · rfl

end

/-- A change of DUMP_SWITCH writes CT only, and is judged with the angles of the latest accepted sample (R44, R47, R48). -/
theorem dumpSwitchChange_spec (level configured : Bool) (s : State) :
    ∃ c, s.dumpSwitchChange level configured = { s with ct := c } ∧ c.dumpSwitch = level
      ∧ ∀ theta phi, s.sp.liveTheta = some theta → s.sp.livePhi = some phi →
        Ct.dumpSwitched theta phi (s.ct.withSwitch level configured) c := by
  obtain ⟨c, frame⟩ := State.dumpSwitchChange_frame level configured s
  obtain ⟨-, switch, -⟩ := State.dumpSwitchChange_lines level configured s
  rw [frame] at switch
  refine ⟨c, frame, switch, fun theta phi hasTheta hasPhi => ⟨fun carried => ?_, fun dumping => ?_, fun raised returning dumping => ?_⟩⟩
  · have ct := congrArg State.ct (frame.symm.trans (dumpSwitchChange_carried hasTheta hasPhi level configured carried))
    rw [followDump_condition] at ct
    exact ct
  · have ct := congrArg State.ct (frame.symm.trans (dumpSwitchChange_dumping hasTheta hasPhi level configured dumping))
    rw [judgeDumping_eq (s := { s with ct := s.ct.withSwitch level configured }) dumping] at ct
    exact ct
  · exact congrArg State.ct (frame.symm.trans (dumpSwitchChange_other level configured raised returning dumping))

end

/-! ### One line that turns -/

/-- A line other than `k` of this function is active. -/
def State.othersActive (k : Fin 8) (f : LineFn) (s : State) : Prop :=
  ∃ j, j ≠ k ∧ s.lm.settings.funcs.get j = f ∧ s.lineActive j = true

section

variable {k : Fin 8} {s : State}

theorem fnActive_iff_others (k : Fin 8) (f : LineFn) (s : State) :
    s.fnActive f ↔ s.othersActive k f ∨ s.lm.settings.funcs.get k = f ∧ s.lineActive k = true := by
  constructor
  · rintro ⟨j, function, active⟩
    by_cases same : j = k
    · subst same; exact .inr ⟨function, active⟩
    · exact .inl ⟨j, same, function, active⟩
  · rintro (⟨j, -, function, active⟩ | ⟨function, active⟩)
    · exact ⟨j, function, active⟩
    · exact ⟨k, function, active⟩

variable (alone : ∀ j, s.lineTurns j ↔ j = k)

include alone

theorem update_active_getLsbD (j : Fin 8) :
    s.lm.update.active.getLsbD j.val = if j = k then !s.lineActive j else s.lineActive j := by
  obtain ⟨turned, stayed⟩ := Lm.update_line s j
  have level : s.lm.update.active.getLsbD j.val = (s.lm.update.debounced.getLsbD j.val != s.lm.settings.inverted.getLsbD j.val) :=
    Lm.active_getLsbD { s with lm := s.lm.update } j
  rw [level]
  unfold State.lineActive
  split
  next same =>
    have turns := (alone j).mpr same
    rw [(turned turns).1, Bool.eq_not.mpr turns.1, Bool.not_bne]
  next differ => rw [(stayed (mt (alone j).mp differ)).1]

/-- The edge of the update is that of line `k`, if it was inactive (R23). -/
theorem edges_getLsbD (j : Fin 8) :
    (s.lm.update.active &&& ~~~s.lm.active).getLsbD j.val = (decide (j = k) && !s.lineActive k) := by
  rw [BitVec.getLsbD_and, BitVec.getLsbD_not, update_active_getLsbD alone, Lm.active_getLsbD]
  by_cases same : j = k
  · subst same; simp
  · simp [same]

/-- The level of a function after the update (R22). -/
theorem computed_iff_others (f : LineFn) :
    (s.lm.update.settings.lineSet f &&& s.lm.update.active != 0) = true ↔
      s.othersActive k f ∨ s.lm.settings.funcs.get k = f ∧ s.lineActive k = false := by
  rw [levels_meet_iff]
  simp only [LinesRec.lineSet_getLsbD, update_active_getLsbD alone]
  constructor
  · rintro ⟨j, function, active⟩
    by_cases same : j = k
    · subst same; exact .inr ⟨function, by simpa using active⟩
    · exact .inl ⟨j, same, function, by simpa [same] using active⟩
  · rintro (⟨j, differ, function, active⟩ | ⟨function, inactive⟩)
    · exact ⟨j, function, by simpa [differ] using active⟩
    · exact ⟨k, function, by simpa using inactive⟩

/-- The level of a function that line `k` does not have stays. -/
theorem computed_iff_fnActive {f : LineFn} (differ : s.lm.settings.funcs.get k ≠ f) :
    (s.lm.update.settings.lineSet f &&& s.lm.update.active != 0) = true ↔ s.fnActive f := by
  rw [computed_iff_others alone, fnActive_iff_others k]
  simp [differ]

omit alone in
theorem filterMap_eightIndices (k : Fin 8) (g : Option LineEvent) :
    (eightIndices.filterMap fun j => if j = k then g else none) = g.toList := by
  fin_cases k <;> cases g <;> rfl

/-- The update raises the event of line `k`, if that has an active edge (R23). -/
theorem eventsOf_edges : s.lm.settings.eventsOf (s.lm.update.active &&& ~~~s.lm.active) =
    if s.lineActive k = true then [] else (s.lm.settings.funcs.get k).event.toList := by
  have line : ∀ j, (if (s.lm.update.active &&& ~~~s.lm.active).getLsbD j.val then (s.lm.settings.funcs.get j).event else none) =
      if j = k then (if s.lineActive k = true then none else (s.lm.settings.funcs.get k).event) else none := fun j => by
    rw [edges_getLsbD alone]
    by_cases same : j = k
    · subst same; by_cases active : s.lineActive j = true <;> simp [active]
    · simp [same]
  unfold LinesRec.eventsOf
  simp only [line]
  rw [filterMap_eightIndices]
  split <;> rfl

end

/-! ### The levels that one line hands on -/

/-- LM after the update, its level functions recomputed. -/
def Lm.updated (m : Lm) : Lm := { m.update with levels := m.update.computedLevels }

section

variable {k : Fin 8} {s : State} (alone : ∀ j, s.lineTurns j ↔ j = k) (sound : s.linesSound)

theorem handLevels_update (s : State) : ({ s with lm := s.lm.update } : State).handLevels =
    if s.lm.update.computedLevels.lights = s.lm.levels.lights then
      ((if s.lm.update.computedLevels.park = s.lm.levels.park then { s with lm := s.lm.updated }
        else State.parkChange s.lm.update.computedLevels.park { s with lm := s.lm.updated })).switchHanded s.lm.levels
          s.lm.update.computedLevels
    else
      { ((if s.lm.update.computedLevels.park = s.lm.levels.park then { s with lm := s.lm.updated }
        else State.parkChange s.lm.update.computedLevels.park { s with lm := s.lm.updated })).switchHanded s.lm.levels
          s.lm.update.computedLevels with
        sd.lights := s.lm.update.computedLevels.lights } := rfl

include sound

theorem computed_configured : s.lm.update.computedLevels.dumpConfigured = s.lm.levels.dumpConfigured := by
  obtain ⟨-, -, -, configured, -⟩ := sound
  exact Bool.eq_iff_iff.mpr ((Lm.computedLevels_dumpConfigured s.lm.update).trans configured.symm)

include alone

theorem computed_park (h : s.lm.settings.funcs.get k ≠ .park) : s.lm.update.computedLevels.park = s.lm.levels.park := by
  obtain ⟨park, -⟩ := sound
  exact Bool.eq_iff_iff.mpr ((computed_iff_fnActive alone h).trans park.symm)

theorem computed_dumpSwitch (h : s.lm.settings.funcs.get k ≠ .dumpSwitch) :
    s.lm.update.computedLevels.dumpSwitch = s.lm.levels.dumpSwitch := by
  obtain ⟨-, switch, -⟩ := sound
  exact Bool.eq_iff_iff.mpr ((computed_iff_fnActive alone h).trans switch.symm)

theorem computed_lights (h : s.lm.settings.funcs.get k ≠ .lights) : s.lm.update.computedLevels.lights = s.lm.levels.lights := by
  obtain ⟨-, -, lights, -⟩ := sound
  exact Bool.eq_iff_iff.mpr ((computed_iff_fnActive alone h).trans lights.symm)

/-- A line without a level function hands nothing on. -/
theorem handLevels_quiet (park : s.lm.settings.funcs.get k ≠ .park) (switch : s.lm.settings.funcs.get k ≠ .dumpSwitch)
    (lights : s.lm.settings.funcs.get k ≠ .lights) :
    ({ s with lm := s.lm.update } : State).handLevels = { s with lm := s.lm.updated } := by
  rw [handLevels_update, if_pos (computed_lights alone sound lights), if_pos (computed_park alone sound park)]
  exact if_pos ⟨computed_dumpSwitch alone sound switch, computed_configured sound⟩

theorem handLevels_park (park : s.lm.settings.funcs.get k = .park) :
    ({ s with lm := s.lm.update } : State).handLevels =
      if s.lm.update.computedLevels.park = s.lm.levels.park then { s with lm := s.lm.updated }
      else State.parkChange s.lm.update.computedLevels.park { s with lm := s.lm.updated } := by
  rw [handLevels_update, if_pos (computed_lights alone sound (by rw [park]; decide))]
  exact if_pos ⟨computed_dumpSwitch alone sound (by rw [park]; decide), computed_configured sound⟩

theorem handLevels_lights (lights : s.lm.settings.funcs.get k = .lights) :
    ({ s with lm := s.lm.update } : State).handLevels =
      { s with lm := s.lm.updated, sd.lights := s.lm.update.computedLevels.lights } := by
  rw [handLevels_update, if_pos (computed_park alone sound (by rw [lights]; decide))]
  have quiet : State.switchHanded s.lm.levels s.lm.update.computedLevels { s with lm := s.lm.updated } =
      { s with lm := s.lm.updated } :=
    if_pos ⟨computed_dumpSwitch alone sound (by rw [lights]; decide), computed_configured sound⟩
  rw [quiet]
  split
  next same =>
    obtain ⟨-, -, -, -, ⟨-, -, -, copy⟩, -⟩ := sound
    rw [same, ← copy]
  next => rfl

theorem handLevels_dumpSwitch (switch : s.lm.settings.funcs.get k = .dumpSwitch) :
    ({ s with lm := s.lm.update } : State).handLevels =
      if s.lm.update.computedLevels.dumpSwitch = s.lm.levels.dumpSwitch then { s with lm := s.lm.updated }
      else State.dumpSwitchChange s.lm.update.computedLevels.dumpSwitch s.ct.dumpConfigured { s with lm := s.lm.updated } := by
  rw [handLevels_update, if_pos (computed_lights alone sound (by rw [switch]; decide)),
    if_pos (computed_park alone sound (by rw [switch]; decide))]
  unfold State.switchHanded
  have configured := computed_configured sound
  obtain ⟨-, -, -, -, ⟨-, -, copy, -⟩, -⟩ := sound
  rw [configured, ← copy]
  simp only [and_true]

end

/-! ### The update of one line -/

section

variable {k : Fin 8} {s : State}

/-- An update at which line `k` alone turns, its outcome but for the watches being `u` (R27). -/
theorem exec_lineUpdate_alone {u : State} (hs : s.held = false) (due : s.lm.updateDue = true) (alone : ∀ j, s.lineTurns j ↔ j = k)
    (turned : s.linesTurned = u) :
    ∃ w e, exec .lineUpdate s = .next { u with lm.watch := w, ex.pending := e } ∧ u.Notes { u with ex.pending := e } := by
  obtain ⟨w, e, evaluated, -, keeps, -⟩ := u.evaluateWatches_spec s.lm.active s.lm.update.active
  refine ⟨w, e, live_eq hs ?_, keeps⟩
  rw [lineUpdate_turning due ⟨k, (alone k).mpr rfl⟩, turned, evaluated]

variable (alone : ∀ j, s.lineTurns j ↔ j = k) (sound : s.linesSound)

include alone

theorem linesTurned_alone : s.linesTurned = State.takeEvents
    (if s.lineActive k = true then [] else (s.lm.settings.funcs.get k).event.toList).length
    (if s.lineActive k = true then [] else (s.lm.settings.funcs.get k).event.toList)
    ({ s with lm := s.lm.update } : State).handLevels := by
  unfold State.linesTurned
  rw [eventsOf_edges alone]

/-- A release edge raises no event, and neither does an edge of a function that has none (R23). -/
theorem linesTurned_noEvent (h : s.lineActive k = true ∨ (s.lm.settings.funcs.get k).event = none) :
    s.linesTurned = ({ s with lm := s.lm.update } : State).handLevels := by
  rw [linesTurned_alone alone]
  have none : (if s.lineActive k = true then [] else (s.lm.settings.funcs.get k).event.toList) = [] := by
    obtain active | none := h
    · rw [if_pos active]
    · rw [none]; exact ite_self _
  rw [none]
  rfl

include sound

/-- The edge of a function that has an event hands it to its receiver (R23). -/
theorem linesTurned_event {e : LineEvent} (inactive : s.lineActive k = false) (event : (s.lm.settings.funcs.get k).event = some e) :
    s.linesTurned = ({ s with lm := s.lm.updated } : State).takeEvent e := by
  rw [linesTurned_alone alone, if_neg (by rw [inactive]; exact Bool.false_ne_true), event,
    handLevels_quiet alone sound (fun h => by simp [h, LineFn.event] at event) (fun h => by simp [h, LineFn.event] at event)
      fun h => by simp [h, LineFn.event] at event]
  rfl

/-- An edge function released, or a line without a function, leaves the tally and the tracker (R22, R23). -/
theorem linesTurned_quiet (h : s.lineActive k = true ∨ (s.lm.settings.funcs.get k).event = none)
    (park : s.lm.settings.funcs.get k ≠ .park) (switch : s.lm.settings.funcs.get k ≠ .dumpSwitch)
    (lights : s.lm.settings.funcs.get k ≠ .lights) : s.linesTurned = { s with lm := s.lm.updated } :=
  (linesTurned_noEvent alone h).trans (handLevels_quiet alone sound park switch lights)

end

section

variable {k : Fin 8} {s : State} (hs : s.held = false) (due : s.lm.updateDue = true) (alone : ∀ j, s.lineTurns j ↔ j = k)
  (sound : s.linesSound)

include hs due alone sound

/-- PARK pressed (R33). -/
theorem pressed_park (inactive : s.lineActive k = false) (park : s.lm.settings.funcs.get k = .park) :
    ∃ t, exec .lineUpdate s = .next t ∧ t.ct.park = true ∧ t.lt = s.lt
      ∧ (s.lm.levels.park = false → s.ct.tracker ≠ .stopped → s.ct.tracker ≠ .weighing → s.ct.tracker ≠ .parked →
        t.ct = { s.ct with
          park := true, tracker := .parked, windowTimer := .stopped, dwellTimer := .stopped, belowStart := false })
      ∧ (s.lm.levels.park = false → s.ct.tracker = .weighing →
        s.weighAborted t ∧ t.ct.tracker = .parked ∧ t.ct.abortCause = some .park)
      ∧ (s.ct.tracker = .stopped ∨ s.ct.tracker = .parked → t.ct = { s.ct with park := true }) := by
  have turned := (linesTurned_noEvent alone (.inr (by rw [park]; rfl))).trans (handLevels_park alone sound park)
  have level : s.lm.update.computedLevels.park = true := (computed_iff_others alone .park).mpr (.inr ⟨park, inactive⟩)
  obtain ⟨-, -, -, -, ⟨copy, -⟩, -⟩ := sound
  rw [level] at turned
  by_cases was : s.lm.levels.park = true
  · rw [was, if_pos rfl] at turned
    obtain ⟨w, e, done, -⟩ := exec_lineUpdate_alone hs due alone turned
    have recorded : s.ct.park = true := copy.trans was
    refine ⟨_, done, recorded, rfl, fun h => absurd (was.symm.trans h) (by decide), fun h => absurd (was.symm.trans h) (by decide),
      fun _ => ?_⟩
    rw [← recorded]
  · rw [Bool.not_eq_true] at was
    rw [was, if_neg (by decide)] at turned
    obtain ⟨w, e, done, keeps⟩ := exec_lineUpdate_alone hs due alone turned
    refine ⟨_, done, (State.parkChange_lines true _).1, ?_, fun _ stopped weighing parked => ?_, fun _ weighing => ?_, fun idle => ?_⟩
    · obtain ⟨_, _, _, _, _, _, _, _, _, frame⟩ := State.parkChange_frame true { s with lm := s.lm.updated }
      rw [frame]
    · rw [parkChange_parks (by exact stopped) (by exact weighing) (by exact parked)]
    · have aborted : s.weighAborted (({ s with lm := s.lm.updated, ct.park := true } : State).abortWeigh .park) :=
        weighAborted_abortWeigh .park ({ s with lm := s.lm.updated, ct.park := true } : State)
      have entered := parkChange_weighing (s := { s with lm := s.lm.updated }) (by exact weighing)
      rw [entered] at keeps ⊢
      refine ⟨aborted.notices rfl rfl ?_ rfl rfl rfl rfl keeps, rfl, ?_⟩ <;> rw [State.abortWeigh_eq] <;> rfl
    · rw [parkChange_idle (by exact idle)]

/-- DUMP_SWITCH pressed (R44, R47). -/
theorem pressed_dumpSwitch (inactive : s.lineActive k = false) (switch : s.lm.settings.funcs.get k = .dumpSwitch) :
    ∃ t, exec .lineUpdate s = .next t ∧ t.ct.dumpSwitch = true ∧ t.lt = s.lt ∧ t.lq = s.lq ∧ t.we = s.we ∧ t.cu = s.cu
      ∧ (s.lm.levels.dumpSwitch = true → t.ct = s.ct)
      ∧ ∀ theta phi, s.lm.levels.dumpSwitch = false → s.sp.liveTheta = some theta → s.sp.livePhi = some phi →
        Ct.dumpSwitched theta phi { s.ct with dumpSwitch := true } t.ct := by
  have turned := (linesTurned_noEvent alone (.inr (by rw [switch]; rfl))).trans (handLevels_dumpSwitch alone sound switch)
  have level : s.lm.update.computedLevels.dumpSwitch = true := (computed_iff_others alone .dumpSwitch).mpr (.inr ⟨switch, inactive⟩)
  obtain ⟨-, -, -, -, ⟨-, copy, -⟩, -⟩ := sound
  rw [level] at turned
  by_cases was : s.lm.levels.dumpSwitch = true
  · rw [was, if_pos rfl] at turned
    obtain ⟨w, e, done, -⟩ := exec_lineUpdate_alone hs due alone turned
    exact ⟨_, done, copy.trans was, rfl, rfl, rfl, rfl, fun _ => rfl, fun _ _ h => absurd (was.symm.trans h) (by decide)⟩
  · rw [Bool.not_eq_true] at was
    rw [was, if_neg (by decide)] at turned
    obtain ⟨c, changed, recorded, judged⟩ := dumpSwitchChange_spec true s.ct.dumpConfigured { s with lm := s.lm.updated }
    obtain ⟨w, e, done, -⟩ := exec_lineUpdate_alone hs due alone (turned.trans changed)
    exact ⟨_, done, recorded, rfl, rfl, rfl, rfl, fun h => absurd (was.symm.trans h) (by decide),
      fun theta phi _ hasTheta hasPhi => judged theta phi hasTheta hasPhi⟩

/-- PARK released: nothing moves (R33). -/
theorem released_park (active : s.lineActive k = true) (park : s.lm.settings.funcs.get k = .park) :
    ∃ t, exec .lineUpdate s = .next t ∧ t.lt = s.lt ∧ t.lq = s.lq ∧ t.we = s.we ∧ t.cu = s.cu ∧ t.ex.slots = s.ex.slots
      ∧ t.ct = { s.ct with park := t.ct.park } ∧ (t.ct.park = true ↔ s.othersActive k .park) ∧ t.sd = s.sd ∧ t.sp = s.sp := by
  have turned := (linesTurned_noEvent alone (.inl active)).trans (handLevels_park alone sound park)
  have level : s.lm.update.computedLevels.park = true ↔ s.othersActive k .park :=
    (computed_iff_others alone .park).trans (by simp [active])
  obtain ⟨follows, -, -, -, ⟨copy, -⟩, -⟩ := sound
  have was : s.lm.levels.park = true := follows.mpr ⟨k, park, active⟩
  by_cases others : s.lm.update.computedLevels.park = true
  · rw [others, was, if_pos rfl] at turned
    obtain ⟨w, e, done, -⟩ := exec_lineUpdate_alone hs due alone turned
    exact ⟨_, done, rfl, rfl, rfl, rfl, rfl, rfl, iff_of_true (copy.trans was) (level.mp others), rfl, rfl⟩
  · have others' := mt level.mpr others
    rw [Bool.not_eq_true] at others
    rw [others, was, if_neg (by decide), parkChange_inactive] at turned
    obtain ⟨w, e, done, -⟩ := exec_lineUpdate_alone hs due alone turned
    exact ⟨_, done, rfl, rfl, rfl, rfl, rfl, rfl, iff_of_false Bool.false_ne_true others', rfl, rfl⟩

/-- DUMP_SWITCH released (R44, R47). -/
theorem released_dumpSwitch (active : s.lineActive k = true) (switch : s.lm.settings.funcs.get k = .dumpSwitch) :
    ∃ t, exec .lineUpdate s = .next t ∧ t.lt = s.lt ∧ t.lq = s.lq ∧ t.we = s.we ∧ t.cu = s.cu ∧ t.ex.slots = s.ex.slots
      ∧ t.sd = s.sd ∧ t.sp = s.sp ∧ (s.othersActive k .dumpSwitch → t.ct = s.ct)
      ∧ (¬s.othersActive k .dumpSwitch → t.ct.dumpSwitch = false)
      ∧ ∀ theta phi, ¬s.othersActive k .dumpSwitch → s.sp.liveTheta = some theta → s.sp.livePhi = some phi →
        Ct.dumpSwitched theta phi { s.ct with dumpSwitch := false } t.ct := by
  have turned := (linesTurned_noEvent alone (.inl active)).trans (handLevels_dumpSwitch alone sound switch)
  have level : s.lm.update.computedLevels.dumpSwitch = true ↔ s.othersActive k .dumpSwitch :=
    (computed_iff_others alone .dumpSwitch).trans (by simp [active])
  obtain ⟨-, follows, -⟩ := sound
  have was : s.lm.levels.dumpSwitch = true := follows.mpr ⟨k, switch, active⟩
  by_cases others : s.lm.update.computedLevels.dumpSwitch = true
  · rw [others, was, if_pos rfl] at turned
    obtain ⟨w, e, done, -⟩ := exec_lineUpdate_alone hs due alone turned
    exact ⟨_, done, rfl, rfl, rfl, rfl, rfl, rfl, rfl, fun _ => rfl, fun h => absurd (level.mp others) h,
      fun _ _ h => absurd (level.mp others) h⟩
  · have others' := mt level.mpr others
    rw [Bool.not_eq_true] at others
    rw [others, was, if_neg (by decide)] at turned
    obtain ⟨c, changed, recorded, judged⟩ := dumpSwitchChange_spec false s.ct.dumpConfigured { s with lm := s.lm.updated }
    obtain ⟨w, e, done, -⟩ := exec_lineUpdate_alone hs due alone (turned.trans changed)
    exact ⟨_, done, rfl, rfl, rfl, rfl, rfl, rfl, rfl, fun h => absurd h others', fun _ => recorded,
      fun theta phi _ hasTheta hasPhi => judged theta phi hasTheta hasPhi⟩

/-- LIGHTS pressed or released (R22). -/
theorem turned_lights (lights : s.lm.settings.funcs.get k = .lights) :
    ∃ w e, exec .lineUpdate s = .next { ({ s with lm := s.lm.updated, sd.lights := s.lm.update.computedLevels.lights } : State) with
      lm.watch := w, ex.pending := e } := by
  obtain ⟨w, e, done, -⟩ := exec_lineUpdate_alone hs due alone
    ((linesTurned_noEvent alone (.inr (by rw [lights]; rfl))).trans (handLevels_lights alone sound lights))
  exact ⟨w, e, done⟩

/-- A line with an event pressed (R23). -/
theorem pressed_event {v : LineEvent} (inactive : s.lineActive k = false) (event : (s.lm.settings.funcs.get k).event = some v) :
    ∃ w e, exec .lineUpdate s = .next { ({ s with lm := s.lm.updated } : State).takeEvent v with lm.watch := w, ex.pending := e }
      ∧ (({ s with lm := s.lm.updated } : State).takeEvent v).Notes
          { ({ s with lm := s.lm.updated } : State).takeEvent v with ex.pending := e } :=
  exec_lineUpdate_alone hs due alone (linesTurned_event alone sound inactive event)

/-- A line that hands on nothing and raises nothing. -/
theorem turned_quiet (h : s.lineActive k = true ∨ (s.lm.settings.funcs.get k).event = none)
    (park : s.lm.settings.funcs.get k ≠ .park) (switch : s.lm.settings.funcs.get k ≠ .dumpSwitch)
    (lights : s.lm.settings.funcs.get k ≠ .lights) :
    ∃ w e, exec .lineUpdate s = .next { ({ s with lm := s.lm.updated } : State) with lm.watch := w, ex.pending := e } := by
  obtain ⟨w, e, done, -⟩ := exec_lineUpdate_alone hs due alone (linesTurned_quiet alone sound h park switch lights)
  exact ⟨w, e, done⟩

end

/-- Settles O25: by the function of the line. -/
theorem buttonPress : Obligations.ButtonPress := by
  unfold Obligations.ButtonPress
  refine ⟨fun k s ⟨hs, due, inactive, alone⟩ sound => ?pressed, fun k s ⟨hs, due, active, alone⟩ sound => ?released⟩
  case pressed =>
    cases function : s.lm.settings.funcs.get k with
    | tipOff =>
      obtain ⟨w, e, done, -⟩ := pressed_event hs due alone sound inactive (v := .tipOff) (by rw [function]; rfl)
      exact ⟨_, done, tipOff_spec { s with lm := s.lm.updated }⟩
    | discard =>
      obtain ⟨w, e, done, -⟩ := pressed_event hs due alone sound inactive (v := .discard) (by rw [function]; rfl)
      exact ⟨_, done, discardPass_spec { s with lm := s.lm.updated }⟩
    | undo =>
      obtain ⟨w, e, done, -⟩ := pressed_event hs due alone sound inactive (v := .undo) (by rw [function]; rfl)
      refine ⟨_, done, fun empty => ?_, fun rest e passes => undoPass_some (s := { s with lm := s.lm.updated }) passes,
        undoPass_rest { s with lm := s.lm.updated }⟩
      have kept := undoPass_empty (s := { s with lm := s.lm.updated }) empty
      exact ⟨(congrArg State.lt kept :), (congrArg State.lq kept :)⟩
    | nextTruck =>
      obtain ⟨w, e, done, -⟩ := pressed_event hs due alone sound inactive (v := .nextTruck) (by rw [function]; rfl)
      refine ⟨_, done, fun empty => ?_, fun passes => ?_, nextTruckEvent_rest { s with lm := s.lm.updated }⟩
      · have kept := nextTruckEvent_empty (s := { s with lm := s.lm.updated }) empty
        exact ⟨(congrArg State.lt kept :), (congrArg State.lq kept :), (congrArg State.sd kept :)⟩
      · have closes := nextTruckEvent_some (s := { s with lm := s.lm.updated }) passes
        have closed := State.closedBy_closeLoad .button { s with lm := s.lm.updated }
        rw [← closes] at closed
        have lt : (({ s with lm := s.lm.updated } : State).takeEvent .nextTruck).lt = s.lt.nextLoad := closed.lt
        refine ⟨by rw [lt]; rfl, by rw [lt]; rfl, by rw [lt]; rfl, closedRecord .button s.lt.load, ?_, rfl, rfl⟩
        exact (congrArg List.getLast? closed.queue).trans List.getLast?_concat
    | ackMsg =>
      obtain ⟨w, e, done, keeps⟩ := pressed_event hs due alone sound inactive (v := .ackMsg) (by rw [function]; rfl)
      refine ⟨_, done, fun hidden => ?_, fun p m display slot => ?_, ackMessage_rest { s with lm := s.lm.updated }⟩
      · exact (congrArg (fun t : State => t.ex.slots) (ackMessage_hidden (s := { s with lm := s.lm.updated }) hidden) :)
      · obtain ⟨slots, acked⟩ := ackMessage_shown (s := { s with lm := s.lm.updated }) display slot
        exact ⟨slots, keeps p 12 acked⟩
    | park => exact pressed_park hs due alone sound inactive function
    | lights =>
      obtain ⟨w, e, done⟩ := turned_lights hs due alone sound function
      exact ⟨_, done, (computed_iff_others alone .lights).mpr (.inr ⟨function, inactive⟩), rfl, rfl, rfl, rfl, rfl⟩
    | dumpSwitch => exact pressed_dumpSwitch hs due alone sound inactive function
    | unused =>
      obtain ⟨w, e, done⟩ := turned_quiet hs due alone sound (.inr (by rw [function]; rfl)) (by rw [function]; decide)
        (by rw [function]; decide) (by rw [function]; decide)
      exact ⟨_, done, rfl, rfl, rfl, rfl, rfl, rfl⟩
  case released =>
    cases function : s.lm.settings.funcs.get k with
    | park => exact released_park hs due alone sound active function
    | dumpSwitch => exact released_dumpSwitch hs due alone sound active function
    | lights =>
      obtain ⟨w, e, done⟩ := turned_lights hs due alone sound function
      refine ⟨_, done, rfl, rfl, rfl, rfl, rfl, rfl, rfl, ?_⟩
      exact (computed_iff_others alone .lights).trans (by simp [active]; rfl)
    | unused | tipOff | undo | nextTruck | discard | ackMsg =>
      obtain ⟨w, e, done⟩ := turned_quiet hs due alone sound (.inl active) (by rw [function]; decide)
        (by rw [function]; decide) (by rw [function]; decide)
      exact ⟨_, done, rfl, rfl, rfl, rfl, rfl, rfl, rfl, rfl⟩

end Sys2Proof.Machine
end

section
/-! A strip frame: its width and its codes, the numbers in its fields, its message line, and the last-pass advice (Table 8-3, R108,
R115 to R118, R139, R140, R146, R147). -/

namespace Sys2Proof.Machine

open Sys2Proof

/-! ### Numbers in decimal (R139) -/

/-- The code of a digit. -/
def digitCode (d : Nat) : Byte := BitVec.ofNat 8 (0x30 + d)

theorem digitCode_toNat {d : Nat} (h : d < 10) : (digitCode d).toNat = 0x30 + d := by
  unfold digitCode
  rw [BitVec.toNat_ofNat, Nat.mod_eq_of_lt (by omega)]

theorem decimal_succ_small (fuel : Nat) {n : Nat} (h : n < 10) : decimal (fuel + 1) n = [digitCode n] := if_pos h

theorem decimal_succ_large (fuel : Nat) {n : Nat} (h : 10 ≤ n) :
    decimal (fuel + 1) n = decimal fuel (n / 10) ++ [digitCode (n % 10)] := if_neg (Nat.not_lt.mpr h)

theorem decimal_digits (fuel n : Nat) : ∀ d ∈ decimal fuel n, 0x30 ≤ d.toNat ∧ d.toNat ≤ 0x39 := by
  have digit : ∀ d, d < 10 → 0x30 ≤ (digitCode d).toNat ∧ (digitCode d).toNat ≤ 0x39 := fun d h => by
    rw [digitCode_toNat h]; omega
  induction fuel generalizing n with
  | zero => exact fun d h => absurd h List.not_mem_nil
  | succ fuel ih =>
    obtain small | large := Nat.lt_or_ge n 10
    · rw [decimal_succ_small fuel small]
      exact List.forall_mem_singleton.mpr (digit n small)
    · rw [decimal_succ_large fuel large]
      exact List.forall_mem_append.mpr ⟨ih _, List.forall_mem_singleton.mpr (digit _ (Nat.mod_lt _ (by decide)))⟩

/-- With fuel for its digits, a number is written with none missing and no leading zero. -/
theorem decimal_spec {fuel n : Nat} (enough : n < 10 ^ (fuel + 1)) :
    decimal (fuel + 1) n ≠ [] ∧ (n ≠ 0 → (decimal (fuel + 1) n).head? ≠ some 0x30)
      ∧ (decimal (fuel + 1) n).foldl (fun a d => 10 * a + (d.toNat - 0x30)) 0 = n := by
  induction fuel generalizing n with
  | zero =>
    have small : n < 10 := by simpa using enough
    rw [decimal_succ_small 0 small]
    refine ⟨List.cons_ne_nil _ _, fun nonzero zero => nonzero ?_, ?_⟩
    · have code := congrArg BitVec.toNat (Option.some.inj zero)
      rw [digitCode_toNat small] at code
      simpa using code
    · simp [digitCode_toNat small]
  | succ fuel ih =>
    obtain small | large := Nat.lt_or_ge n 10
    · rw [decimal_succ_small _ small, ← decimal_succ_small fuel small]
      exact ih (Nat.lt_of_lt_of_le small (Nat.le_self_pow (Nat.succ_ne_zero fuel) 10))
    · rw [decimal_succ_large _ large]
      obtain ⟨some, head, value⟩ := ih (n := n / 10) (by rw [pow_succ] at enough; omega)
      refine ⟨List.append_ne_nil_of_left_ne_nil some _, fun _ => ?_, ?_⟩
      · rw [List.head?_append_of_ne_nil _ some]
        exact head (by omega)
      · rw [List.foldl_append, value, List.foldl_cons, List.foldl_nil, digitCode_toNat (Nat.mod_lt _ (by decide))]
        omega

theorem isDecimal_decimal {fuel n : Nat} (enough : n < 10 ^ (fuel + 1)) : isDecimal (decimal (fuel + 1) n) n := by
  obtain ⟨some, head, value⟩ := decimal_spec enough
  refine ⟨some, decimal_digits _ n, fun long => head fun zero => long ?_, value⟩
  subst zero; rfl

/-! ### The codes of a frame (R146, R150) -/

/-- A code that the strip shows. -/
def StripCode (c : Byte) : Prop := 0x20 ≤ c.toNat ∧ c.toNat ≤ 0x5F

theorem stripCode_space : StripCode space := by unfold StripCode; decide

theorem stripCode_stripChar (c : Byte) : StripCode (stripChar c) := by
  unfold stripChar
  split
  next code => exact code
  next => exact stripCode_space

theorem stripCode_replicate (n : Nat) : ∀ c ∈ List.replicate n space, StripCode c := fun c h => by
  rw [List.eq_of_mem_replicate h]; exact stripCode_space

theorem stripCode_padLeft (w : Nat) {t : List Byte} (h : ∀ c ∈ t, StripCode c) : ∀ c ∈ padLeft w t, StripCode c :=
  List.forall_mem_append.mpr ⟨stripCode_replicate _, h⟩

theorem stripCode_padRight (w : Nat) {t : List Byte} (h : ∀ c ∈ t, StripCode c) : ∀ c ∈ padRight w t, StripCode c :=
  fun c member => List.forall_mem_append.mpr ⟨h, stripCode_replicate w⟩ c (List.mem_of_mem_take member)

theorem stripCode_decimal (fuel n : Nat) : ∀ c ∈ decimal fuel n, StripCode c := fun c h => by
  obtain ⟨lower, upper⟩ := decimal_digits fuel n c h
  exact ⟨by omega, by omega⟩

theorem stripCode_digitCode {d : Nat} (h : d < 10) : StripCode (digitCode d) := by
  unfold StripCode
  rw [digitCode_toNat h]; omega

theorem stripCode_massField (kg : Int) : ∀ c ∈ massField kg, StripCode c := by
  unfold massField
  refine stripCode_padLeft 6 (List.forall_mem_append.mpr ⟨List.forall_mem_append.mpr ⟨?_, stripCode_decimal _ _⟩,
    List.forall_mem_cons.mpr ⟨by unfold StripCode; decide, List.forall_mem_singleton.mpr ?_⟩⟩)
  · split
    · exact List.forall_mem_singleton.mpr (by unfold StripCode; decide)
    · exact fun c h => absurd h List.not_mem_nil
  · exact stripCode_digitCode (Nat.mod_lt _ (by decide))

theorem stripCode_blankField : ∀ c ∈ blankField, StripCode c := stripCode_replicate 6

theorem stripCode_fieldF1 (s : State) : ∀ c ∈ s.fieldF1, StripCode c := by
  unfold State.fieldF1
  split
  next m _ _ =>
    cases m with
    | none => unfold passField StripCode; decide
    | some kg => exact stripCode_massField kg
  · exact stripCode_blankField

theorem stripCode_fieldF3 (s : State) : ∀ c ∈ s.fieldF3, StripCode c := by
  unfold State.fieldF3
  split
  · exact stripCode_massField _
  · exact stripCode_blankField

/-- The four numeric fields of a frame. -/
def State.fields (s : State) : List Byte := s.fieldF1 ++ (s.fieldF2 ++ (s.fieldF3 ++ s.passCountField))

theorem length_fields (s : State) : s.fields.length = 20 := by simp [State.fields]

theorem stripCode_fields (s : State) : ∀ c ∈ s.fields, StripCode c :=
  List.forall_mem_append.mpr ⟨stripCode_fieldF1 s, List.forall_mem_append.mpr ⟨stripCode_massField _,
    List.forall_mem_append.mpr ⟨stripCode_fieldF3 s, stripCode_padLeft 2 (stripCode_decimal 2 _)⟩⟩⟩

/-! ### Texts (Table 8-6, R108, R146) -/

theorem length_padRight (w : Nat) (t : List Byte) : (padRight w t).length = w := by
  unfold padRight; simp

theorem padRight_of_le {w : Nat} {t : List Byte} (h : t.length ≤ w) : padRight w t = t ++ List.replicate (w - t.length) space := by
  unfold padRight
  rw [List.take_append, List.take_of_length_le h, List.take_replicate, Nat.min_eq_left (Nat.sub_le w _)]

theorem oneRow_eq {t : List Byte} (h : t.length ≤ 20) : oneRow t = padRight 40 t := by
  unfold oneRow
  rw [padRight_of_le h, padRight_of_le (by omega), List.append_assoc, List.replicate_append_replicate]
  congr 2; omega

theorem length_advisoryText_le (x : Advisory) : x.text.length ≤ 20 := by
  cases x with
  | loadClosed n => exact (by decide : 17 ≤ 20)
  | targetReached | overload | reWeigh | weighAborted | calLiftEmpty | calLiftLoad | calDone | calFailed => decide

theorem stripCode_fiveDigits (n : Nat) : ∀ c ∈ fiveDigits n, StripCode c := by
  intro c h
  obtain ⟨d, member, rfl⟩ := List.mem_map.mp h
  refine stripCode_digitCode ?_
  simp only [List.mem_cons, List.not_mem_nil, or_false] at member
  omega

theorem stripCode_advisoryText (x : Advisory) : ∀ c ∈ x.text, StripCode c := by
  cases x with
  | loadClosed n =>
    refine List.forall_mem_append.mpr ⟨List.forall_mem_append.mpr ⟨?_, stripCode_fiveDigits n⟩, ?_⟩ <;>
      (unfold StripCode; decide)
  | targetReached | overload | reWeigh | weighAborted | calLiftEmpty | calLiftLoad | calDone | calFailed =>
    unfold StripCode; decide

/-- The canonical text layer holds codes of the strip only (R150). -/
theorem stripCode_textRead {m : List Host.Cell} (h : textWf m = true) (a : Nat) : StripCode (textRead m a) := by
  induction m with
  | nil => exact stripCode_space
  | cons cell rest ih =>
    obtain ⟨k, v⟩ := cell
    simp only [textWf, Bool.and_eq_true, decide_eq_true_eq] at h
    obtain ⟨⟨⟨⟨-, -⟩, code⟩, -⟩, canonical⟩ := h
    show StripCode (if k = a then v else textRead rest a)
    split
    · rw [← code]; exact stripCode_stripChar v
    · exact ih canonical

theorem textRows_eq (m : List Host.Cell) : textRow m 0 ++ textRow m 1 = (List.range 40).map fun a => textRead m a := by
  have split : List.range 40 = List.range 20 ++ (List.range 20).map (20 + ·) := List.range_add (n := 20) (m := 20)
  rw [split, List.map_append, List.map_map]
  unfold textRow textAddr
  simp [Function.comp_def]

/-! ### The slot on display (R147) -/

section

variable {s : State}

theorem slotQualifies_iff (x : Ex) (p : Port) :
    x.slotQualifies p = true ↔ ∃ m, x.slots.get p = some m ∧ m.showFlag = true ∧ m.acked = false := by
  unfold Ex.slotQualifies
  cases x.slots.get p with
  | none => simp
  | some m => simp [Message.qualifies]

theorem slotQualifies_eq_false_iff (x : Ex) (p : Port) :
    x.slotQualifies p = false ↔ ∀ m, x.slots.get p = some m → m.showFlag = false ∨ m.acked = true := by
  unfold Ex.slotQualifies
  cases x.slots.get p with
  | none => simp
  | some m => cases shown : m.showFlag <;> simp [Message.qualifies, shown]

/-- The slot shown is the earliest stored of those that qualify (R146). -/
theorem shownSlot_iff (x : Ex) (p : Port) :
    x.shownSlot = some p ↔ ∃ pre post, x.storeOrder = pre ++ p :: post
      ∧ (∃ m, x.slots.get p = some m ∧ m.showFlag = true ∧ m.acked = false)
      ∧ ∀ q ∈ pre, ∀ m, x.slots.get q = some m → m.showFlag = false ∨ m.acked = true := by
  unfold Ex.shownSlot
  rw [List.find?_eq_some_iff_append]
  simp only [← slotQualifies_iff, ← slotQualifies_eq_false_iff, Bool.not_eq_true']
  constructor
  · rintro ⟨qualifies, pre, post, order, before⟩; exact ⟨pre, post, order, qualifies, before⟩
  · rintro ⟨pre, post, order, qualifies, before⟩; exact ⟨qualifies, pre, post, order, before⟩

theorem onDisplay_iff (p : Port) :
    s.onDisplay = some p ↔ s.sd.advisories = [] ∧ s.sp.sensorFault = false ∧ s.ex.shownSlot = some p := by
  unfold State.onDisplay
  split
  next clear =>
    obtain ⟨quiet, clear⟩ := clear
    exact ⟨fun shown => ⟨List.isEmpty_iff.mp quiet, clear, shown⟩, fun ⟨_, _, shown⟩ => shown⟩
  next busy => exact ⟨nofun, fun ⟨quiet, clear, _⟩ => absurd ⟨List.isEmpty_iff.mpr quiet, clear⟩ busy⟩

/-! ### The message line, layer by layer (R146) -/

theorem messageLine_advisory {x : Advisory} {rest : List Advisory} (h : s.sd.advisories = x :: rest) :
    s.messageLine = padRight 40 x.text := by
  unfold State.messageLine
  rw [h]
  exact oneRow_eq (length_advisoryText_le x)

theorem messageLine_fault (quiet : s.sd.advisories = []) (fault : s.sp.sensorFault = true) :
    s.messageLine = padRight 40 sensorFaultText := by
  unfold State.messageLine
  rw [quiet]
  exact (if_pos fault).trans (oneRow_eq (by decide))

theorem messageLine_message {p : Port} {m : Message} (display : s.onDisplay = some p) (slot : s.ex.slots.get p = some m) :
    s.messageLine = padRight 40 (m.bytes.map stripChar) := by
  obtain ⟨quiet, clear, shown⟩ := (onDisplay_iff p).mp display
  unfold State.messageLine
  rw [quiet]
  dsimp only
  rw [if_neg (by rw [clear]; exact Bool.false_ne_true), shown]
  show (match s.ex.slots.get p with
    | some m => padRight 40 (m.bytes.map stripChar)
    | none => _) = _
  rw [slot]

/-- With nothing in the layers above, the line is the advice or the text layer. -/
theorem messageLine_low (quiet : s.sd.advisories = []) (clear : s.sp.sensorFault = false) (hidden : s.onDisplay = none) :
    (∀ n, s.advice = some n → s.messageLine = padRight 40 (lastPassText n))
      ∧ (s.advice = none → s.messageLine = (List.range 40).map fun a => textRead s.sd.text a) := by
  have shown : s.ex.shownSlot = none := by
    unfold State.onDisplay at hidden
    rwa [if_pos ⟨List.isEmpty_iff.mpr quiet, clear⟩] at hidden
  have layer : s.messageLine = match s.advice with
      | some n => oneRow (lastPassText n)
      | none => textRow s.sd.text 0 ++ textRow s.sd.text 1 := by
    unfold State.messageLine
    rw [quiet]
    dsimp only
    rw [if_neg (by rw [clear]; exact Bool.false_ne_true), shown]
    rfl
  rw [layer]
  refine ⟨fun n advice => ?_, fun none => ?_⟩
  · rw [advice]
    refine oneRow_eq ?_
    have digits := length_decimal_le_fuel 3 n
    simp only [lastPassText, ascii, List.length_append, List.length_map, List.length_cons, List.length_nil]
    omega
  · rw [none]; exact textRows_eq s.sd.text

theorem stripCode_lastPassText (n : Nat) : ∀ c ∈ lastPassText n, StripCode c := by
  refine List.forall_mem_append.mpr ⟨List.forall_mem_append.mpr ⟨?_, stripCode_decimal 3 n⟩, ?_⟩ <;> (unfold StripCode; decide)

/-- The message line has 40 characters, all codes of the strip. -/
theorem messageLine_shape (h : textWf s.sd.text = true) : s.messageLine.length = 40 ∧ ∀ c ∈ s.messageLine, StripCode c := by
  cases advisories : s.sd.advisories with
  | cons x rest =>
    rw [messageLine_advisory advisories]
    exact ⟨length_padRight 40 _, stripCode_padRight 40 (stripCode_advisoryText x)⟩
  | nil =>
    by_cases fault : s.sp.sensorFault = true
    · rw [messageLine_fault advisories fault]
      exact ⟨length_padRight 40 _, stripCode_padRight 40 (by unfold StripCode; decide)⟩
    rw [Bool.not_eq_true] at fault
    cases display : s.onDisplay with
    | some p =>
      obtain ⟨-, -, shown⟩ := (onDisplay_iff p).mp display
      obtain ⟨-, -, -, ⟨m, slot, -⟩, -⟩ := (shownSlot_iff s.ex p).mp shown
      rw [messageLine_message display slot]
      refine ⟨length_padRight 40 _, stripCode_padRight 40 fun c member => ?_⟩
      obtain ⟨b, -, rfl⟩ := List.mem_map.mp member
      exact stripCode_stripChar b
    | none =>
      obtain ⟨advised, text⟩ := messageLine_low advisories fault display
      cases advice : s.advice with
      | some n =>
        rw [advised n advice]
        exact ⟨length_padRight 40 _, stripCode_padRight 40 (stripCode_lastPassText n)⟩
      | none =>
        rw [text advice]
        refine ⟨by simp, fun c member => ?_⟩
        obtain ⟨a, -, rfl⟩ := List.mem_map.mp member
        exact stripCode_textRead h a

/-! ### Where a frame holds its fields (Table 8-3) -/

theorem stripFrame_eq (s : State) :
    s.stripFrame = (s.headerByte :: s.barBytes) ++ (s.fields ++ (s.lampByte :: s.messageLine)) := by
  simp [State.stripFrame, State.fields]

theorem stripFrame_drop_fields (s : State) : s.stripFrame.drop 6 = s.fields ++ (s.lampByte :: s.messageLine) := by
  rw [stripFrame_eq]
  exact List.drop_left' (by simp)

theorem stripFrame_drop_messageLine (s : State) : s.stripFrame.drop 27 = s.messageLine := by
  rw [show 27 = 6 + 21 from rfl, ← List.drop_drop, stripFrame_drop_fields, show 21 = 20 + 1 from rfl, ← List.drop_drop,
    List.drop_left' (length_fields s)]
  rfl

theorem stripFrame_getD_field (s : State) {i : Nat} (h : i < 20) : s.stripFrame.getD (6 + i) 0 ∈ s.fields := by
  have inside : i < s.fields.length := by rw [length_fields]; exact h
  rw [stripFrame_eq, List.getD_append_right _ _ _ _ (by simp), List.getD_append _ _ _ _ (by simp [length_fields]; omega)]
  rw [show 6 + i - (s.headerByte :: s.barBytes).length = i by simp, List.getD_eq_getElem _ _ inside]
  exact List.getElem_mem inside

theorem stripFrame_getD_message (s : State) {i : Nat} (h : i < s.messageLine.length) :
    s.stripFrame.getD (27 + i) 0 ∈ s.messageLine := by
  have moved : s.stripFrame.getD (27 + i) 0 = (s.stripFrame.drop 27).getD i 0 := by
    simp [List.getD_eq_getElem?_getD]
  rw [moved, stripFrame_drop_messageLine, List.getD_eq_getElem _ _ h]
  exact List.getElem_mem h

theorem stripFrame_fieldF1 (s : State) : (s.stripFrame.drop 6).take 6 = s.fieldF1 := by
  rw [stripFrame_drop_fields]
  unfold State.fields
  rw [List.append_assoc]
  exact List.take_left' (length_fieldF1 s)

theorem stripFrame_fieldF2 (s : State) : (s.stripFrame.drop 12).take 6 = s.fieldF2 := by
  rw [show 12 = 6 + 6 from rfl, ← List.drop_drop, stripFrame_drop_fields]
  unfold State.fields
  rw [List.append_assoc, List.drop_left' (length_fieldF1 s), List.append_assoc]
  exact List.take_left' (length_fieldF2 s)

theorem stripFrame_fieldF3 (s : State) : (s.stripFrame.drop 18).take 6 = s.fieldF3 := by
  rw [show 18 = 6 + (6 + 6) from rfl, ← List.drop_drop, stripFrame_drop_fields, ← List.drop_drop]
  unfold State.fields
  rw [List.append_assoc, List.drop_left' (length_fieldF1 s), List.append_assoc, List.drop_left' (length_fieldF2 s), List.append_assoc]
  exact List.take_left' (length_fieldF3 s)

theorem stripFrame_passCount (s : State) : (s.stripFrame.drop 24).take 2 = s.passCountField := by
  rw [show 24 = 6 + (6 + (6 + 6)) from rfl, ← List.drop_drop, stripFrame_drop_fields, ← List.drop_drop, ← List.drop_drop]
  unfold State.fields
  rw [List.append_assoc, List.drop_left' (length_fieldF1 s), List.append_assoc, List.drop_left' (length_fieldF2 s), List.append_assoc,
    List.drop_left' (length_fieldF3 s)]
  exact List.take_left' (length_passCountField s)

/-! ### The fields (R139, R140) -/

/-- A mass field writes the mass in tenths of a tonne (R118, R139). -/
theorem massField_spec {kg v : Int} (h : v = min 99999 (max (-9999) (roundDiv kg 100))) :
    ∃ spaces ds, isDecimal ds (v.natAbs / 10)
      ∧ massField kg = List.replicate spaces 0x20 ++ (if v < 0 then [0x2D] else []) ++ ds
        ++ [0x2E, BitVec.ofNat 8 (0x30 + v.natAbs % 10)]
      ∧ (massField kg).length = 6 := by
  have clamped : clampInt (-9999) 99999 (roundDiv kg 100) = v := (clampInt_eq (by decide) _).trans h.symm
  refine ⟨6 - ((if v < 0 then [0x2D] else []) ++ decimal 5 (v.natAbs / 10)
    ++ [0x2E, BitVec.ofNat 8 (0x30 + v.natAbs % 10)] : List Byte).length, decimal 5 (v.natAbs / 10), isDecimal_decimal (by omega), ?_,
    length_massField kg⟩
  unfold massField
  dsimp only
  rw [clamped]
  unfold padLeft
  rw [← List.append_assoc, ← List.append_assoc]
  rfl

theorem passCountField_spec (h : s.lt.load.passes.length ≤ 99) :
    ∃ ds, isDecimal ds s.lt.load.passes.length ∧ s.passCountField = List.replicate (2 - ds.length) 0x20 ++ ds :=
  ⟨_, isDecimal_decimal (fuel := 1) (by omega), rfl⟩

theorem fieldF3_spec (s : State) :
    (s.lt.load.target = none → s.fieldF3 = List.replicate 6 0x20)
      ∧ ∀ t, s.lt.load.target = some t → s.fieldF3 = massField ((t : Int) - s.lt.load.total) := by
  unfold State.fieldF3 State.remaining
  exact ⟨fun none => by rw [none]; rfl, fun t target => by rw [target]; rfl⟩

/-- Settles O29: the widths and codes of the parts, then each field. -/
theorem stripFrameShape : Obligations.StripFrameShape := by
  unfold Obligations.StripFrameShape
  intro s
  rw [stripFrame_fieldF1, stripFrame_fieldF2, stripFrame_fieldF3, stripFrame_passCount]
  obtain ⟨blank, remaining⟩ := fieldF3_spec s
  refine ⟨fun sound _ => ?shape, fun none => ?none, fun m f shown => ?mass, fun f shown => ?dashes, rfl, blank, remaining,
    passCountField_spec, fun kg v => massField_spec, fun x => ⟨fun held => ?held, fun rest e none passes => ?newest, fun none empty => ?empty⟩⟩
  case shape =>
    obtain ⟨length, codes⟩ := messageLine_shape sound.1
    refine ⟨by rw [stripFrame_eq]; simp [length_fields, length], fun i inField => ?_⟩
    obtain ⟨lower, upper⟩ | ⟨lower, upper⟩ := inField
    · obtain ⟨j, rfl⟩ := Nat.exists_eq_add_of_le lower
      exact stripCode_fields s _ (stripFrame_getD_field s (by omega))
    · obtain ⟨j, rfl⟩ := Nat.exists_eq_add_of_le lower
      exact codes _ (stripFrame_getD_message s (by omega))
  case none => unfold State.fieldF1; rw [none]; rfl
  case mass => unfold State.fieldF1; rw [shown]; rfl
  case dashes => unfold State.fieldF1; rw [shown]; rfl
  case held => unfold State.shownPass; rw [held]
  case newest => unfold State.shownPass; rw [none, passes, List.getLast?_concat]; rfl
  case empty => unfold State.shownPass; rw [none, empty]; rfl

/-! ### The last-pass advice (R117) -/

theorem advice_noTarget (h : s.lt.load.target = none) : s.advice = none := by
  unfold State.advice State.remaining
  rw [h]; rfl

theorem advice_target {t : Nat} (h : s.lt.load.target = some t) :
    s.advice = if 0 < (t : Int) - s.lt.load.total ∧ (t : Int) - s.lt.load.total ≤ s.capacity then
      some (max 1 (roundNat (((t : Int) - s.lt.load.total).toNat * 100) s.capacity)) else none := by
  unfold State.advice State.remaining
  rw [h]; rfl

/-- Settles O31: the message line layer by layer, then the slot on display, the texts and the advice. -/
theorem messageLine : Obligations.MessageLine := by
  unfold Obligations.MessageLine
  intro s
  rw [stripFrame_drop_messageLine]
  refine ⟨fun x rest => messageLine_advisory, messageLine_fault, fun p m => messageLine_message, messageLine_low, fun p => ?_, fun x => ?_,
    rfl, fun n small => isDecimal_decimal small, advice_noTarget, fun t target => ⟨fun lower upper => ?_, fun outside => ?_⟩⟩
  · rw [onDisplay_iff, shownSlot_iff]
  · cases x with
    | loadClosed n => simp [Advisory.text, fiveDigits]
    | targetReached | overload | reWeigh | weighAborted | calLiftEmpty | calLiftLoad | calDone | calFailed => rfl
  · rw [advice_target target, if_pos (by omega)]
    unfold roundNat
    congr 5
    omega
  · rw [advice_target target, if_neg (by omega)]

end

end Sys2Proof.Machine
end
